-- ==== Sys2Proof/Word.lean ====
section
/-!
DEFINITION. The value types of the axVM.

A field element of `F` (an operand, a memory cell, `pc`) is held as its canonical representative `canon` in `[0, p)`, a natural
number (R13, R23; log 1; the prime `p` is a parameter, R6, so it is not part of the type). Register values and 256-bit integers, which the
spec treats as bit patterns, are bit vectors.
-/

namespace Sys2Proof

/-- A 32-bit register value or RISC-V word (R16, R24). -/
abbrev Word := BitVec 32

/-- A 256-bit integer of the 256-bit intrinsics (R352). -/
abbrev Wide := BitVec 256

end Sys2Proof
end

