-- ==== Sys2Proof/Machine/Flags.lean ====
section
/-!
DEFINITION. The machine has no flags (R50): a comparison decides a branch or writes 1 or 0. These are the six conditions the
branches and the set-if-less instructions use, on 32-bit (R231, R232, R283 to R288) and on 256-bit patterns (R363 to R371).
-/

namespace Sys2Proof.Machine

/-- Equality of all cells (R283, R366). -/
def condEq {n : Nat} (x y : BitVec n) : Bool := x == y

/-- Some cell differs (R284, R367). -/
def condNe {n : Nat} (x y : BitVec n) : Bool := x != y

/-- Less than as two's complement integers (R285, R368). -/
def condLt {n : Nat} (x y : BitVec n) : Bool := decide (x.toInt < y.toInt)

/-- Not less than as two's complement integers (R286, R369). -/
def condGe {n : Nat} (x y : BitVec n) : Bool := decide (x.toInt ≥ y.toInt)

/-- Less than as unsigned integers (R287, R370). -/
def condLtu {n : Nat} (x y : BitVec n) : Bool := decide (x.toNat < y.toNat)

/-- Not less than as unsigned integers (R288, R371). -/
def condGeu {n : Nat} (x y : BitVec n) : Bool := decide (x.toNat ≥ y.toNat)

/-- The value a set-if instruction writes: 1 or 0 (R231, R363). -/
def boolWord (n : Nat) (c : Bool) : BitVec n := if c then 1 else 0

end Sys2Proof.Machine
end

