-- ==== Sys2Proof/Syntax.lean ====
section
/-!
DEFINITION. The instructions: one constructor of `Instr` for each of the 168 rows of `spec/opcode_table.json`.

The first 94 are the axVM's own (85 mnemonics and the 9 phantom sub-instructions); they carry every operand position of
the eight-element tuple of R120, so that a wrong fixed operand (R125) is expressible. The last 74 are the RISC-V words
of `49_riscv_transpilation.md`; they carry the bit fields of the 32-bit word (R141 to R153).
-/

namespace Sys2Proof

/-- The seven operand positions `a` to `g` of an axVM instruction (R120). -/
structure Operands where
  a : Nat
  b : Nat
  c : Nat
  d : Nat
  e : Nat
  f : Nat
  g : Nat
deriving DecidableEq, Repr

/-- The operands of a phantom sub-instruction: `c` is split into its discriminant, which the constructor names, and
`c_upper = canon(c) >> 16` (R190). -/
structure PhantomOperands where
  a : Nat
  b : Nat
  cUpper : Nat
  d : Nat
  e : Nat
  f : Nat
  g : Nat
deriving DecidableEq, Repr

/-- The classes of instructions that a configuration enables (R2, R128). The phantom sub-instructions belong to `system`. -/
inductive OpClass where
  | system
  | rv32Alu
  | rv32LoadStore
  | rv32Branch
  | rv32Mul
  | rv32Io
  | rv32Hash
  | int256
  | modular
  | curve
  | nativeBase
  | nativeField
  | nativeExt
  | nativeHash
deriving DecidableEq, Repr

/-- The instantiated mnemonics that own an opcode (R122). The block size `w` of `LOAD<W>`, `STORE<W>`, `BEQ<W>` and `BNE<W>` and
the index `i` of the modulus or curve are part of the opcode. `REVEAL_RV32` has the opcode of `STOREW_RV32` (R130), and
the phantom sub-instructions share that of `PHANTOM`. -/
inductive Op where
  | terminate
  | phantom
  | addRv32
  | subRv32
  | xorRv32
  | orRv32
  | andRv32
  | sllRv32
  | srlRv32
  | sraRv32
  | sltRv32
  | sltuRv32
  | loadbRv32
  | loadhRv32
  | loadwRv32
  | loadbuRv32
  | loadhuRv32
  | storebRv32
  | storehRv32
  | storewRv32
  | beqRv32
  | bneRv32
  | bltRv32
  | bgeRv32
  | bltuRv32
  | bgeuRv32
  | jalRv32
  | jalrRv32
  | luiRv32
  | auipcRv32
  | mulRv32
  | mulhRv32
  | mulhsuRv32
  | mulhuRv32
  | divRv32
  | divuRv32
  | remRv32
  | remuRv32
  | hintstorewRv32
  | keccak256Rv32
  | add256Rv32
  | sub256Rv32
  | xor256Rv32
  | or256Rv32
  | and256Rv32
  | sll256Rv32
  | srl256Rv32
  | sra256Rv32
  | slt256Rv32
  | sltu256Rv32
  | beq256Rv32
  | bne256Rv32
  | blt256Rv32
  | bge256Rv32
  | bltu256Rv32
  | bgeu256Rv32
  | mul256Rv32
  | addmodRv32 (i : Nat)
  | submodRv32 (i : Nat)
  | mulmodRv32 (i : Nat)
  | divmodRv32 (i : Nat)
  | iseqmodRv32 (i : Nat)
  | swAddNe (i : Nat)
  | swDouble (i : Nat)
  | load (w : Nat)
  | store (w : Nat)
  | load2
  | store2
  | shintw
  | jal
  | beq (w : Nat)
  | bne (w : Nat)
  | publish
  | castf
  | addf
  | subf
  | mulf
  | divf
  | fe4add
  | fe4sub
  | bbe4mul
  | bbe4div
  | compressPoseidon2
  | permPoseidon2
deriving DecidableEq, Repr

/-- The class of an instantiated mnemonic (R128). -/
def Op.cls : Op → OpClass
  | .terminate => .system
  | .phantom => .system
  | .addRv32 => .rv32Alu
  | .subRv32 => .rv32Alu
  | .xorRv32 => .rv32Alu
  | .orRv32 => .rv32Alu
  | .andRv32 => .rv32Alu
  | .sllRv32 => .rv32Alu
  | .srlRv32 => .rv32Alu
  | .sraRv32 => .rv32Alu
  | .sltRv32 => .rv32Alu
  | .sltuRv32 => .rv32Alu
  | .loadbRv32 => .rv32LoadStore
  | .loadhRv32 => .rv32LoadStore
  | .loadwRv32 => .rv32LoadStore
  | .loadbuRv32 => .rv32LoadStore
  | .loadhuRv32 => .rv32LoadStore
  | .storebRv32 => .rv32LoadStore
  | .storehRv32 => .rv32LoadStore
  | .storewRv32 => .rv32LoadStore
  | .beqRv32 => .rv32Branch
  | .bneRv32 => .rv32Branch
  | .bltRv32 => .rv32Branch
  | .bgeRv32 => .rv32Branch
  | .bltuRv32 => .rv32Branch
  | .bgeuRv32 => .rv32Branch
  | .jalRv32 => .rv32Branch
  | .jalrRv32 => .rv32Branch
  | .luiRv32 => .rv32Branch
  | .auipcRv32 => .rv32Branch
  | .mulRv32 => .rv32Mul
  | .mulhRv32 => .rv32Mul
  | .mulhsuRv32 => .rv32Mul
  | .mulhuRv32 => .rv32Mul
  | .divRv32 => .rv32Mul
  | .divuRv32 => .rv32Mul
  | .remRv32 => .rv32Mul
  | .remuRv32 => .rv32Mul
  | .hintstorewRv32 => .rv32Io
  | .keccak256Rv32 => .rv32Hash
  | .add256Rv32 => .int256
  | .sub256Rv32 => .int256
  | .xor256Rv32 => .int256
  | .or256Rv32 => .int256
  | .and256Rv32 => .int256
  | .sll256Rv32 => .int256
  | .srl256Rv32 => .int256
  | .sra256Rv32 => .int256
  | .slt256Rv32 => .int256
  | .sltu256Rv32 => .int256
  | .beq256Rv32 => .int256
  | .bne256Rv32 => .int256
  | .blt256Rv32 => .int256
  | .bge256Rv32 => .int256
  | .bltu256Rv32 => .int256
  | .bgeu256Rv32 => .int256
  | .mul256Rv32 => .int256
  | .addmodRv32 _ => .modular
  | .submodRv32 _ => .modular
  | .mulmodRv32 _ => .modular
  | .divmodRv32 _ => .modular
  | .iseqmodRv32 _ => .modular
  | .swAddNe _ => .curve
  | .swDouble _ => .curve
  | .load _ => .nativeBase
  | .store _ => .nativeBase
  | .load2 => .nativeBase
  | .store2 => .nativeBase
  | .shintw => .nativeBase
  | .jal => .nativeBase
  | .beq _ => .nativeBase
  | .bne _ => .nativeBase
  | .publish => .nativeBase
  | .castf => .nativeBase
  | .addf => .nativeField
  | .subf => .nativeField
  | .mulf => .nativeField
  | .divf => .nativeField
  | .fe4add => .nativeExt
  | .fe4sub => .nativeExt
  | .bbe4mul => .nativeExt
  | .bbe4div => .nativeExt
  | .compressPoseidon2 => .nativeHash
  | .permPoseidon2 => .nativeHash

/-- The instructions, in the order of `spec/opcode_table.json`. -/
inductive Instr where
  /-- `TERMINATE` (R180). -/
  | terminate (o : Operands)
  /-- `PHANTOM` (R190). -/
  | phantom (o : Operands)
  /-- `PHANTOM.NOP` (R185). -/
  | phantomNop (q : PhantomOperands)
  /-- `PHANTOM.DEBUG_PANIC` (R186). -/
  | phantomDebugPanic (q : PhantomOperands)
  /-- `PHANTOM.PRINT_F` (R187). -/
  | phantomPrintF (q : PhantomOperands)
  /-- `PHANTOM.HINT_INPUT` (R192). -/
  | phantomHintInput (q : PhantomOperands)
  /-- `PHANTOM.HINT_BITS` (R193). -/
  | phantomHintBits (q : PhantomOperands)
  /-- `PHANTOM.CT_START` (R194). -/
  | phantomCtStart (q : PhantomOperands)
  /-- `PHANTOM.CT_END` (R195). -/
  | phantomCtEnd (q : PhantomOperands)
  /-- `PHANTOM.HINT_FINAL_EXP_BN254` (R196). -/
  | phantomHintFinalExpBn254 (q : PhantomOperands)
  /-- `PHANTOM.HINT_FINAL_EXP_BLS12_381` (R197). -/
  | phantomHintFinalExpBls12381 (q : PhantomOperands)
  /-- `ADD_RV32` (R223). -/
  | addRv32 (o : Operands)
  /-- `SUB_RV32` (R224). -/
  | subRv32 (o : Operands)
  /-- `XOR_RV32` (R225). -/
  | xorRv32 (o : Operands)
  /-- `OR_RV32` (R226). -/
  | orRv32 (o : Operands)
  /-- `AND_RV32` (R227). -/
  | andRv32 (o : Operands)
  /-- `SLL_RV32` (R228). -/
  | sllRv32 (o : Operands)
  /-- `SRL_RV32` (R229). -/
  | srlRv32 (o : Operands)
  /-- `SRA_RV32` (R230). -/
  | sraRv32 (o : Operands)
  /-- `SLT_RV32` (R231). -/
  | sltRv32 (o : Operands)
  /-- `SLTU_RV32` (R232). -/
  | sltuRv32 (o : Operands)
  /-- `LOADB_RV32` (R254). -/
  | loadbRv32 (o : Operands)
  /-- `LOADH_RV32` (R255). -/
  | loadhRv32 (o : Operands)
  /-- `LOADW_RV32` (R256). -/
  | loadwRv32 (o : Operands)
  /-- `LOADBU_RV32` (R257). -/
  | loadbuRv32 (o : Operands)
  /-- `LOADHU_RV32` (R258). -/
  | loadhuRv32 (o : Operands)
  /-- `STOREB_RV32` (R259). -/
  | storebRv32 (o : Operands)
  /-- `STOREH_RV32` (R260). -/
  | storehRv32 (o : Operands)
  /-- `STOREW_RV32` (R261). -/
  | storewRv32 (o : Operands)
  /-- `BEQ_RV32` (R283). -/
  | beqRv32 (o : Operands)
  /-- `BNE_RV32` (R284). -/
  | bneRv32 (o : Operands)
  /-- `BLT_RV32` (R285). -/
  | bltRv32 (o : Operands)
  /-- `BGE_RV32` (R286). -/
  | bgeRv32 (o : Operands)
  /-- `BLTU_RV32` (R287). -/
  | bltuRv32 (o : Operands)
  /-- `BGEU_RV32` (R288). -/
  | bgeuRv32 (o : Operands)
  /-- `JAL_RV32` (R289). -/
  | jalRv32 (o : Operands)
  /-- `JALR_RV32` (R290). -/
  | jalrRv32 (o : Operands)
  /-- `LUI_RV32` (R291). -/
  | luiRv32 (o : Operands)
  /-- `AUIPC_RV32` (R292). -/
  | auipcRv32 (o : Operands)
  /-- `MUL_RV32` (R311). -/
  | mulRv32 (o : Operands)
  /-- `MULH_RV32` (R312). -/
  | mulhRv32 (o : Operands)
  /-- `MULHSU_RV32` (R313). -/
  | mulhsuRv32 (o : Operands)
  /-- `MULHU_RV32` (R314). -/
  | mulhuRv32 (o : Operands)
  /-- `DIV_RV32` (R315). -/
  | divRv32 (o : Operands)
  /-- `DIVU_RV32` (R316). -/
  | divuRv32 (o : Operands)
  /-- `REM_RV32` (R317). -/
  | remRv32 (o : Operands)
  /-- `REMU_RV32` (R318). -/
  | remuRv32 (o : Operands)
  /-- `HINTSTOREW_RV32` (R330). -/
  | hintstorewRv32 (o : Operands)
  /-- `REVEAL_RV32` (R331). -/
  | revealRv32 (o : Operands)
  /-- `KECCAK256_RV32` (R332). -/
  | keccak256Rv32 (o : Operands)
  /-- `ADD256_RV32` (R355). -/
  | add256Rv32 (o : Operands)
  /-- `SUB256_RV32` (R356). -/
  | sub256Rv32 (o : Operands)
  /-- `XOR256_RV32` (R357). -/
  | xor256Rv32 (o : Operands)
  /-- `OR256_RV32` (R358). -/
  | or256Rv32 (o : Operands)
  /-- `AND256_RV32` (R359). -/
  | and256Rv32 (o : Operands)
  /-- `SLL256_RV32` (R360). -/
  | sll256Rv32 (o : Operands)
  /-- `SRL256_RV32` (R361). -/
  | srl256Rv32 (o : Operands)
  /-- `SRA256_RV32` (R362). -/
  | sra256Rv32 (o : Operands)
  /-- `SLT256_RV32` (R363). -/
  | slt256Rv32 (o : Operands)
  /-- `SLTU256_RV32` (R364). -/
  | sltu256Rv32 (o : Operands)
  /-- `BEQ256_RV32` (R366). -/
  | beq256Rv32 (o : Operands)
  /-- `BNE256_RV32` (R367). -/
  | bne256Rv32 (o : Operands)
  /-- `BLT256_RV32` (R368). -/
  | blt256Rv32 (o : Operands)
  /-- `BGE256_RV32` (R369). -/
  | bge256Rv32 (o : Operands)
  /-- `BLTU256_RV32` (R370). -/
  | bltu256Rv32 (o : Operands)
  /-- `BGEU256_RV32` (R371). -/
  | bgeu256Rv32 (o : Operands)
  /-- `MUL256_RV32` (R372). -/
  | mul256Rv32 (o : Operands)
  /-- `ADDMOD_RV32<N>` (R394). -/
  | addmodRv32 (i : Nat) (o : Operands)
  /-- `SUBMOD_RV32<N>` (R395). -/
  | submodRv32 (i : Nat) (o : Operands)
  /-- `MULMOD_RV32<N>` (R396). -/
  | mulmodRv32 (i : Nat) (o : Operands)
  /-- `DIVMOD_RV32<N>` (R397). -/
  | divmodRv32 (i : Nat) (o : Operands)
  /-- `ISEQMOD_RV32<N>` (R398). -/
  | iseqmodRv32 (i : Nat) (o : Operands)
  /-- `SW_ADD_NE<C>` (R402). -/
  | swAddNe (i : Nat) (o : Operands)
  /-- `SW_DOUBLE<C>` (R403). -/
  | swDouble (i : Nat) (o : Operands)
  /-- `LOAD<W>` (R430). -/
  | load (w : Nat) (o : Operands)
  /-- `STORE<W>` (R431). -/
  | store (w : Nat) (o : Operands)
  /-- `LOAD2` (R432). -/
  | load2 (o : Operands)
  /-- `STORE2` (R433). -/
  | store2 (o : Operands)
  /-- `SHINTW` (R434). -/
  | shintw (o : Operands)
  /-- `JAL` (R435). -/
  | jal (o : Operands)
  /-- `BEQ<W>` (R437). -/
  | beq (w : Nat) (o : Operands)
  /-- `BNE<W>` (R438). -/
  | bne (w : Nat) (o : Operands)
  /-- `PUBLISH` (R436). -/
  | publish (o : Operands)
  /-- `CASTF` (R439). -/
  | castf (o : Operands)
  /-- `ADDF` (R441). -/
  | addf (o : Operands)
  /-- `SUBF` (R442). -/
  | subf (o : Operands)
  /-- `MULF` (R443). -/
  | mulf (o : Operands)
  /-- `DIVF` (R444). -/
  | divf (o : Operands)
  /-- `FE4ADD` (R451). -/
  | fe4add (o : Operands)
  /-- `FE4SUB` (R452). -/
  | fe4sub (o : Operands)
  /-- `BBE4MUL` (R453). -/
  | bbe4mul (o : Operands)
  /-- `BBE4DIV` (R454). -/
  | bbe4div (o : Operands)
  /-- `COMPRESS_POSEIDON2[8,0]` (R461). -/
  | compressPoseidon2 (o : Operands)
  /-- `PERM_POSEIDON2[16,0]` (R462). -/
  | permPoseidon2 (o : Operands)
  /-- `add` (R480). -/
  | rvAdd (rd rs1 rs2 : BitVec 5)
  /-- `sub` (R481). -/
  | rvSub (rd rs1 rs2 : BitVec 5)
  /-- `xor` (R482). -/
  | rvXor (rd rs1 rs2 : BitVec 5)
  /-- `or` (R483). -/
  | rvOr (rd rs1 rs2 : BitVec 5)
  /-- `and` (R484). -/
  | rvAnd (rd rs1 rs2 : BitVec 5)
  /-- `sll` (R485). -/
  | rvSll (rd rs1 rs2 : BitVec 5)
  /-- `srl` (R486). -/
  | rvSrl (rd rs1 rs2 : BitVec 5)
  /-- `sra` (R487). -/
  | rvSra (rd rs1 rs2 : BitVec 5)
  /-- `slt` (R488). -/
  | rvSlt (rd rs1 rs2 : BitVec 5)
  /-- `sltu` (R489). -/
  | rvSltu (rd rs1 rs2 : BitVec 5)
  /-- `addi` (R490). -/
  | rvAddi (rd rs1 : BitVec 5) (imm : BitVec 12)
  /-- `xori` (R491). -/
  | rvXori (rd rs1 : BitVec 5) (imm : BitVec 12)
  /-- `ori` (R492). -/
  | rvOri (rd rs1 : BitVec 5) (imm : BitVec 12)
  /-- `andi` (R493). -/
  | rvAndi (rd rs1 : BitVec 5) (imm : BitVec 12)
  /-- `slli` (R494). -/
  | rvSlli (rd rs1 shamt : BitVec 5)
  /-- `srli` (R495). -/
  | rvSrli (rd rs1 shamt : BitVec 5)
  /-- `srai` (R496). -/
  | rvSrai (rd rs1 shamt : BitVec 5)
  /-- `slti` (R497). -/
  | rvSlti (rd rs1 : BitVec 5) (imm : BitVec 12)
  /-- `sltiu` (R498). -/
  | rvSltiu (rd rs1 : BitVec 5) (imm : BitVec 12)
  /-- `lb` (R499). -/
  | rvLb (rd rs1 : BitVec 5) (imm : BitVec 12)
  /-- `lh` (R500). -/
  | rvLh (rd rs1 : BitVec 5) (imm : BitVec 12)
  /-- `lw` (R501). -/
  | rvLw (rd rs1 : BitVec 5) (imm : BitVec 12)
  /-- `lbu` (R502). -/
  | rvLbu (rd rs1 : BitVec 5) (imm : BitVec 12)
  /-- `lhu` (R503). -/
  | rvLhu (rd rs1 : BitVec 5) (imm : BitVec 12)
  /-- `sb` (R504). -/
  | rvSb (rs1 rs2 : BitVec 5) (imm : BitVec 12)
  /-- `sh` (R505). -/
  | rvSh (rs1 rs2 : BitVec 5) (imm : BitVec 12)
  /-- `sw` (R506). -/
  | rvSw (rs1 rs2 : BitVec 5) (imm : BitVec 12)
  /-- `beq` (R507). -/
  | rvBeq (rs1 rs2 : BitVec 5) (imm : BitVec 12)
  /-- `bne` (R508). -/
  | rvBne (rs1 rs2 : BitVec 5) (imm : BitVec 12)
  /-- `blt` (R509). -/
  | rvBlt (rs1 rs2 : BitVec 5) (imm : BitVec 12)
  /-- `bge` (R510). -/
  | rvBge (rs1 rs2 : BitVec 5) (imm : BitVec 12)
  /-- `bltu` (R511). -/
  | rvBltu (rs1 rs2 : BitVec 5) (imm : BitVec 12)
  /-- `bgeu` (R512). -/
  | rvBgeu (rs1 rs2 : BitVec 5) (imm : BitVec 12)
  /-- `jal` (R513). -/
  | rvJal (rd : BitVec 5) (imm : BitVec 20)
  /-- `jalr` (R514). -/
  | rvJalr (rd rs1 : BitVec 5) (imm : BitVec 12)
  /-- `lui` (R515). -/
  | rvLui (rd : BitVec 5) (imm : BitVec 20)
  /-- `auipc` (R516). -/
  | rvAuipc (rd : BitVec 5) (imm : BitVec 20)
  /-- `mul` (R517). -/
  | rvMul (rd rs1 rs2 : BitVec 5)
  /-- `mulh` (R518). -/
  | rvMulh (rd rs1 rs2 : BitVec 5)
  /-- `mulhsu` (R519). -/
  | rvMulhsu (rd rs1 rs2 : BitVec 5)
  /-- `mulhu` (R520). -/
  | rvMulhu (rd rs1 rs2 : BitVec 5)
  /-- `div` (R521). -/
  | rvDiv (rd rs1 rs2 : BitVec 5)
  /-- `divu` (R522). -/
  | rvDivu (rd rs1 rs2 : BitVec 5)
  /-- `rem` (R523). -/
  | rvRem (rd rs1 rs2 : BitVec 5)
  /-- `remu` (R524). -/
  | rvRemu (rd rs1 rs2 : BitVec 5)
  /-- `terminate` (R529). -/
  | rvTerminate (code : BitVec 12)
  /-- `hintstorew` (R530). -/
  | rvHintstorew (rd : BitVec 5) (imm : BitVec 12)
  /-- `reveal` (R531). -/
  | rvReveal (rs1 rd : BitVec 5) (imm : BitVec 12)
  /-- `hintinput` (R532). -/
  | rvHintinput
  /-- `keccak256` (R533). -/
  | rvKeccak256 (rd rs1 rs2 : BitVec 5)
  /-- `add256` (R534). -/
  | rvAdd256 (rd rs1 rs2 : BitVec 5)
  /-- `sub256` (R535). -/
  | rvSub256 (rd rs1 rs2 : BitVec 5)
  /-- `xor256` (R536). -/
  | rvXor256 (rd rs1 rs2 : BitVec 5)
  /-- `or256` (R537). -/
  | rvOr256 (rd rs1 rs2 : BitVec 5)
  /-- `and256` (R538). -/
  | rvAnd256 (rd rs1 rs2 : BitVec 5)
  /-- `sll256` (R539). -/
  | rvSll256 (rd rs1 rs2 : BitVec 5)
  /-- `srl256` (R540). -/
  | rvSrl256 (rd rs1 rs2 : BitVec 5)
  /-- `sra256` (R541). -/
  | rvSra256 (rd rs1 rs2 : BitVec 5)
  /-- `slt256` (R542). -/
  | rvSlt256 (rd rs1 rs2 : BitVec 5)
  /-- `sltu256` (R543). -/
  | rvSltu256 (rd rs1 rs2 : BitVec 5)
  /-- `beq256` (R544). -/
  | rvBeq256 (rd rs1 rs2 : BitVec 5)
  /-- `bne256` (R545). -/
  | rvBne256 (rd rs1 rs2 : BitVec 5)
  /-- `blt256` (R546). -/
  | rvBlt256 (rd rs1 rs2 : BitVec 5)
  /-- `bge256` (R547). -/
  | rvBge256 (rd rs1 rs2 : BitVec 5)
  /-- `bltu256` (R548). -/
  | rvBltu256 (rd rs1 rs2 : BitVec 5)
  /-- `bgeu256` (R549). -/
  | rvBgeu256 (rd rs1 rs2 : BitVec 5)
  /-- `mul256` (R550). -/
  | rvMul256 (rd rs1 rs2 : BitVec 5)
  /-- `addmod<N>` (R551). -/
  | rvAddmod (idx : BitVec 4) (rd rs1 rs2 : BitVec 5)
  /-- `submod<N>` (R552). -/
  | rvSubmod (idx : BitVec 4) (rd rs1 rs2 : BitVec 5)
  /-- `mulmod<N>` (R553). -/
  | rvMulmod (idx : BitVec 4) (rd rs1 rs2 : BitVec 5)
  /-- `divmod<N>` (R554). -/
  | rvDivmod (idx : BitVec 4) (rd rs1 rs2 : BitVec 5)
  /-- `iseqmod<N>` (R555). -/
  | rvIseqmod (idx : BitVec 4) (rd rs1 rs2 : BitVec 5)
  /-- `sw_add_ne<C>` (R556). -/
  | rvSwAddNe (idx : BitVec 4) (rd rs1 rs2 : BitVec 5)
  /-- `sw_double<C>` (R557). -/
  | rvSwDouble (idx : BitVec 4) (rd rs1 : BitVec 5)
deriving DecidableEq, Repr

/-- One axVM instruction as the ROM holds it: the opcode and the seven operands, eight field elements (R120). -/
structure Tuple where
  opcode : Nat
  ops : Operands
deriving DecidableEq, Repr

/-- What one ROM location holds: an axVM instruction (R58), or a RISC-V word that stands for the axVM instruction it is
transpiled to (R470; DESIGN CHOICE, log 9, safe: the word is translated when it is fetched). -/
inductive RomEntry where
  | tuple (t : Tuple)
  | riscv (w : Word)
deriving DecidableEq, Repr

end Sys2Proof
end

