-- ==== Sys2Proof/Config.lean ====
section
/-!
DEFINITION. What an implementation fixes (R6 to R12), as a record of plain data, and the external functions and free
values of the spec, as opaque constants that no proof can evaluate.

The record is a field of the machine's state that no step changes (DESIGN CHOICE, log 2, safe): statements about every
state are thereby statements about every configuration.
-/

namespace Sys2Proof

/-- A configured modulus `N` with `N::NUM_LIMBS` and `N::BLOCK_SIZE` (R390). -/
structure Modulus where
  n : Nat
  numLimbs : Nat
  blockSize : Nat
deriving DecidableEq, Repr

/-- A configured short Weierstrass curve `y^2 = x^3 + b` over the integers modulo the prime `p`, with `C::COORD_SIZE` and
`C::BLOCK_SIZE` (R400, R401). -/
structure Curve where
  p : Nat
  b : Nat
  coordSize : Nat
  blockSize : Nat
deriving DecidableEq, Repr

/-- Whose sign the remainder of `DIV_RV32` and `REM_RV32` takes (`DIVREM_SIGN`, R320). -/
inductive DivRemSign where
  | dividend
  | divisor
deriving DecidableEq, Repr

/-- Which offsets the native transfers take: the spec says both that any field element is one (R126, R423) and that it lies in
`[-2^24, 2^24)` (D30). -/
inductive NativeOffsets where
  | any
  | ranged
deriving DecidableEq, Repr

/-- The configuration of a VM (R6 to R12; the open parameters of `93_implementation_defined.md` section 2). -/
structure Config where
  /-- The modulus of the field `F` (R6). -/
  p : Nat
  /-- `as_offset` (R10). -/
  asOffset : Nat
  /-- `addr_space_max_bits` (R10). -/
  addrSpaceMaxBits : Nat
  /-- `pointer_max_bits`, which `addr_max_bits` also denotes (R10, D4). -/
  pointerMaxBits : Nat
  /-- The map `OPCODE`, as pairs of an opcode and its mnemonic (R9). -/
  opcodes : List (Nat × Op)
  /-- The enabled operation classes (R11). -/
  classes : List OpClass
  /-- The block sizes `W` for which the native block instructions exist (R421). -/
  widths : List Nat
  /-- The ordered list of moduli (R390). -/
  moduli : List Modulus
  /-- The ordered list of curves (R400). -/
  curves : List Curve
  /-- `num_public_values` (R436). -/
  numPublicValues : Nat
  /-- `DIVREM_SIGN` (R320). -/
  divRemSign : DivRemSign
  /-- Where `shamt256` departs from its default `y mod 256`, for amounts of 256 or more (R354). -/
  shamt256 : List (Nat × Nat)
  /-- The supplied part of `imm_branch256`, which is undefined by default (R147). -/
  immBranch256 : List (Word × Int)
  /-- The range of native offsets, on which the spec's files differ (R423, D30; DESIGN CHOICE, log 21). -/
  nativeOffsets : NativeOffsets
deriving DecidableEq, Repr

/-- The BabyBear prime `2^31 - 2^27 + 1` (PRESUMED: R6 gives it from general knowledge, G1; log 3, unsafe). -/
def babyBear : Nat := 2013265921

/-- The block sizes the VM supports (R8, R87). -/
def supportedBlocks : List Nat := [1, 2, 4, 8, 16, 32, 64]

/-- `F::bits()`, the bit length of `p` (R7, D37). -/
def Config.fieldBits (cfg : Config) : Nat := Nat.log2 cfg.p + 1

/-- The constraints among the parameters that are decided by computation (R6, R8, R10, R12, R390, R400, R421, R645). -/
abbrev Config.Wf (cfg : Config) : Prop :=
  2 ^ 30 + 2 * 2 ^ 24 < cfg.p ∧ cfg.p < 2 ^ 32 ∧
  cfg.asOffset ≤ 1 ∧ 4 < cfg.asOffset + 2 ^ cfg.addrSpaceMaxBits ∧
  cfg.addrSpaceMaxBits + 2 ≤ cfg.fieldBits ∧ cfg.pointerMaxBits + 2 ≤ cfg.fieldBits ∧
  (cfg.opcodes.map (·.1)).Nodup ∧ (cfg.opcodes.map (·.2)).Nodup ∧ (∀ x ∈ cfg.opcodes, x.1 < cfg.p) ∧
  (∀ w ∈ cfg.widths, w ∈ supportedBlocks) ∧
  cfg.moduli.length ≤ 16 ∧
  (∀ m ∈ cfg.moduli, 1 ≤ m.n ∧ m.n < 256 ^ m.numLimbs ∧ m.blockSize ∈ supportedBlocks ∧ m.numLimbs % m.blockSize = 0) ∧
  cfg.curves.length ≤ 16 ∧
  (∀ c ∈ cfg.curves, c.p < 256 ^ c.coordSize ∧ c.b < c.p ∧ c.blockSize ∈ supportedBlocks ∧ c.coordSize % c.blockSize = 0) ∧
  (∀ x ∈ cfg.shamt256, 256 ≤ x.1) ∧
  (OpClass.nativeHash ∈ cfg.classes → cfg.p = babyBear)

/-- A configuration the spec admits: the computable constraints, and the primality of `p` (R6) and of every curve's
coordinate field (R401). -/
structure Config.Valid (cfg : Config) : Prop where
  wf : cfg.Wf
  prime : cfg.p.Prime
  curvePrime : ∀ c ∈ cfg.curves, c.p.Prime

/-- Numbers the mnemonics of a list upwards from `k`. -/
def numberOps : List Op → Nat → List (Nat × Op)
  | [], _ => []
  | op :: ops, k => (k, op) :: numberOps ops (k + 1)

/-- The mnemonics of the launch configuration, class by class, in the order of the opcode table (DESIGN CHOICE, log 4, unsafe:
the spec gives no numeric opcode, R9). -/
def launchOps : List (List Op) := [[.terminate, .phantom],
  [.addRv32, .subRv32, .xorRv32, .orRv32, .andRv32, .sllRv32, .srlRv32, .sraRv32, .sltRv32, .sltuRv32],
  [.loadbRv32, .loadhRv32, .loadwRv32, .loadbuRv32, .loadhuRv32, .storebRv32, .storehRv32, .storewRv32],
  [.beqRv32, .bneRv32, .bltRv32, .bgeRv32, .bltuRv32, .bgeuRv32, .jalRv32, .jalrRv32, .luiRv32, .auipcRv32],
  [.mulRv32, .mulhRv32, .mulhsuRv32, .mulhuRv32, .divRv32, .divuRv32, .remRv32, .remuRv32],
  [.hintstorewRv32],
  [.keccak256Rv32],
  [.add256Rv32, .sub256Rv32, .xor256Rv32, .or256Rv32, .and256Rv32, .sll256Rv32, .srl256Rv32, .sra256Rv32,
   .slt256Rv32, .sltu256Rv32, .beq256Rv32, .bne256Rv32, .blt256Rv32, .bge256Rv32, .bltu256Rv32, .bgeu256Rv32,
   .mul256Rv32],
  [.addmodRv32 0, .submodRv32 0, .mulmodRv32 0, .divmodRv32 0, .iseqmodRv32 0],
  [.swAddNe 0, .swDouble 0],
  [.load 1, .load 2, .load 4, .load 8, .load 16, .load 32, .load 64, .store 1, .store 2, .store 4, .store 8,
   .store 16, .store 32, .store 64, .load2, .store2, .shintw, .jal, .beq 1, .beq 2, .beq 4, .beq 8, .beq 16,
   .beq 32, .beq 64, .bne 1, .bne 2, .bne 4, .bne 8, .bne 16, .bne 32, .bne 64, .publish, .castf],
  [.addf, .subf, .mulf, .divf],
  [.fe4add, .fe4sub, .bbe4mul, .bbe4div],
  [.compressPoseidon2, .permPoseidon2]]

/-- The configuration the model starts with: the one the spec's own vectors use (`95_test_vectors.md` sections 2 and 2.8), with
every class and block size enabled (DESIGN CHOICE, and PRESUMED for the BabyBear prime; logs 3 and 4, unsafe). -/
def Config.launch : Config where
  p := babyBear
  asOffset := 1
  addrSpaceMaxBits := 2
  pointerMaxBits := 29
  opcodes := numberOps launchOps.flatten 0
  classes := [.system, .rv32Alu, .rv32LoadStore, .rv32Branch, .rv32Mul, .rv32Io, .rv32Hash, .int256, .modular, .curve,
    .nativeBase, .nativeField, .nativeExt, .nativeHash]
  widths := supportedBlocks
  moduli := [⟨65521, 2, 2⟩]
  curves := [⟨17, 7, 2, 2⟩]
  numPublicValues := 16
  divRemSign := .dividend
  shamt256 := []
  immBranch256 := []
  nativeOffsets := .ranged

/-- `keccak256`, a configuration function of which nothing is assumed (R36, R333; log 14): the message as its bytes, and the
position of a digest byte. -/
opaque Config.keccak256 : List Nat → Fin 32 → BitVec 8

/-- The Poseidon2 permutation for `PID = 0`, a configuration function of which nothing is assumed (R36, R460; log 15): the
sixteen inputs, and the position of an output, read modulo `p`. -/
opaque Config.poseidon2Perm0 : List Nat → Fin 16 → Nat

/-- The free choices: `freeChoice k` is the choice of draw number `k`, of which nothing is known (R392, D24; log 12). -/
opaque Config.freeChoice : Nat → Nat

end Sys2Proof
end

