-- ==== Sys2Proof/Machine/Arith.lean ====
section
/-!
DEFINITION. The arithmetic the rules share: byte order, sign extension, field arithmetic on canonical representatives, and the
inverse modulo a number (R16 to R24, R440, R450).
-/

namespace Sys2Proof.Machine

/-! ### Bytes and bit patterns -/

/-- `int_le`: the number whose little-endian bytes are the list (R24, R92). -/
def leNat : List Nat → Nat
  | [] => 0
  | b :: bs => b + 256 * leNat bs

/-- `bytes_le(v, n)`: the `n` low bytes of `v`, least significant first (R24). -/
def leBytes (v : Nat) : Nat → List Nat
  | 0 => []
  | n + 1 => v % 256 :: leBytes (v / 256) n

/-- The 32-bit pattern of an 8-bit, 16-bit or 24-bit number sign-extended from `n` bits, `to_u32(sext_n(v))` (R24). -/
def sext32 (n v : Nat) : Word := (BitVec.ofNat n v).signExtend 32

/-! ### The field -/

/-- `centred(v)`, the source's `i32(c)` of a field element (R17). -/
def centred (p : Nat) (v : Nat) : Int := if 2 * v < p then v else (v : Int) - p

/-- `fe(n)` of an integer (R23). -/
def fe (p : Nat) (n : Int) : Nat := (n % p).toNat

/-- `+_F` (R23). -/
def fadd (p : Nat) (x y : Nat) : Nat := (x + y) % p

/-- `-_F` (R23). -/
def fsub (p : Nat) (x y : Nat) : Nat := (x + (p - y % p)) % p

/-- `*_F` (R23). -/
def fmul (p : Nat) (x y : Nat) : Nat := (x * y) % p

/-- The extended Euclidean algorithm on remainders `r0`, `r1` with their coefficients `s0`, `s1`; the coefficient of the last
non-zero remainder. -/
def invLoop : Nat → Nat → Nat → Int → Int → Int
  | 0, _, _, s0, _ => s0
  | k + 1, r0, r1, s0, s1 =>
    if r1 = 0 then s0 else invLoop k r1 (r0 % r1) s1 (s0 - (r0 / r1 : Nat) * s1)

/-- The integer `inv` in `[0, n)` with `(y * inv) mod n = 1 mod n`, where `gcd(y, n) = 1` (R397). -/
def modInv (y n : Nat) : Nat := (invLoop (n + 1) (y % n) n 1 0 % n).toNat

/-- `/_F` by a non-zero divisor (R444). -/
def fdiv (p : Nat) (x y : Nat) : Nat := fmul p x (modInv y p)

/-! ### The quartic extension `F[x] / (x^4 - 11)` (R450) -/

/-- An extension element: the coefficients of `x^0` to `x^3` (R450). -/
structure Ext where
  x0 : Nat
  x1 : Nat
  x2 : Nat
  x3 : Nat
deriving DecidableEq, Repr

/-- The element of four cells, the coefficient of `x^0` at the lowest pointer (R450). -/
def Ext.ofList (l : List Nat) : Ext := ⟨l.getD 0 0, l.getD 1 0, l.getD 2 0, l.getD 3 0⟩

/-- The four cells of an element (R450). -/
def Ext.toList (x : Ext) : List Nat := [x.x0, x.x1, x.x2, x.x3]

/-- Vector addition (R451). -/
def extAdd (p : Nat) (x y : Ext) : Ext := ⟨fadd p x.x0 y.x0, fadd p x.x1 y.x1, fadd p x.x2 y.x2, fadd p x.x3 y.x3⟩

/-- Vector subtraction (R452). -/
def extSub (p : Nat) (x y : Ext) : Ext := ⟨fsub p x.x0 y.x0, fsub p x.x1 y.x1, fsub p x.x2 y.x2, fsub p x.x3 y.x3⟩

/-- Multiplication reduced by `x^4 = 11` (R453). -/
def extMul (p : Nat) (x y : Ext) : Ext :=
  ⟨(x.x0 * y.x0 + 11 * (x.x1 * y.x3 + x.x2 * y.x2 + x.x3 * y.x1)) % p,
   (x.x0 * y.x1 + x.x1 * y.x0 + 11 * (x.x2 * y.x3 + x.x3 * y.x2)) % p,
   (x.x0 * y.x2 + x.x1 * y.x1 + x.x2 * y.x0 + 11 * (x.x3 * y.x3)) % p,
   (x.x0 * y.x3 + x.x1 * y.x2 + x.x2 * y.x1 + x.x3 * y.x0) % p⟩

/-- The inverse of a non-zero element, by the norms to the subfields of degree 2 and 1 (R454). -/
def extInv (p : Nat) (y : Ext) : Ext :=
  let a := fe p ((y.x0 : Int) * y.x0 + 11 * ((y.x2 : Int) * y.x2) - 22 * ((y.x1 : Int) * y.x3))
  let b := fe p (2 * ((y.x0 : Int) * y.x2) - (y.x1 : Int) * y.x1 - 11 * ((y.x3 : Int) * y.x3))
  let n := fe p ((a : Int) * a - 11 * ((b : Int) * b))
  let k := modInv n p
  let z := extMul p ⟨y.x0, fsub p 0 y.x1, y.x2, fsub p 0 y.x3⟩ ⟨a, 0, fsub p 0 b, 0⟩
  ⟨fmul p k z.x0, fmul p k z.x1, fmul p k z.x2, fmul p k z.x3⟩

/-- Division by a non-zero element (R454). -/
def extDiv (p : Nat) (x y : Ext) : Ext := extMul p x (extInv p y)

/-! ### Signed division -/

/-- The quotient and the remainder of a signed division by a non-zero divisor: truncated where the remainder takes the sign of the
dividend, floored where it takes that of the divisor (R320). -/
def signedDivRem (sign : DivRemSign) (n m : Int) : Int × Int :=
  match sign with
  | .dividend => (n.tdiv m, n.tmod m)
  | .divisor => (n.fdiv m, n.fmod m)

end Sys2Proof.Machine
end

