-- ==== Sys2Proof/Machine/State.lean ====
section
/-!
DEFINITION. The machine's state as plain data, the reasons a step can stop, and the state after reset (the launch of a run,
`70_reset_and_hazards.md`).
-/

namespace Sys2Proof.Machine

/-- Why a step has no successor: the closed list of causes of `raise Invalid(cause)` (R602) and the four behaviours the source
calls undefined or assumes away (R603). A fault writes nothing and ends the run (R600). Every one is safe: the model stops
where the spec says that no valid execution exists. -/
inductive Fault where
  /-- `Prog` has no instruction at `pc`. Raised by the fetch (R58, R601). -/
  | fetchOutsideProgram
  /-- The opcode is not that of an enabled instruction. Raised by the decoding and by every axVM meaning (R129, R393, R421, R450). -/
  | unknownOpcode
  /-- A fixed or unused operand holds another value, or an immediate is outside its form. Raised by every axVM meaning (R125, R126). -/
  | badOperand
  /-- An address-space operand is not a supported space with cells. Raised by every access and by the operand checks (R83, R84). -/
  | badAddressSpace
  /-- A pointer or block leaves `[0, 2^pointer_max_bits)`. Raised by every access (R88, R95, R96). -/
  | pointerOutOfRange
  /-- A block that is not aligned to its size. Raised by every block access (R89, R91). -/
  | misaligned
  /-- A cell or hint element read as a byte is 256 or more. Raised by the `_RV32` instructions (R60, R253, R330). -/
  | notByte
  /-- The new `pc` is outside `[0, 2^30)`. Raised by the default step and by every transfer (R44). -/
  | pcOutOfRange
  /-- `DEBUG_PANIC` "causes the runtime to panic on the host machine" (R186). -/
  | debugPanic
  /-- `HINT_INPUT` with an empty input stream (R192). -/
  | inputStreamEmpty
  /-- `SHINTW` or `HINTSTOREW_RV32` with too few hint elements (R199). -/
  | hintStreamEmpty
  /-- A phantom sub-instruction whose operands and description are "todo" (R196, R197). -/
  | unmodelledPhantom
  /-- A phantom discriminant that is not assigned (R198). -/
  | unknownPhantom
  /-- Field division by zero. Raised by `DIVF` and `BBE4DIV` (R444, R454). -/
  | divByZeroF
  /-- `CASTF` of a value of more than 30 bits (R439). -/
  | castfRange
  /-- `ISEQMOD_RV32` on an input that is not below the modulus (R398). -/
  | notReduced
  /-- `PUBLISH` of a value other than the one already fixed (R436). -/
  | publishMismatch
  /-- `PUBLISH` at an index that is not below the number of public values (R436). -/
  | publicIndexOutOfRange
  /-- `Undefined(DivmodNotCoprime)`: `DIVMOD_RV32` by a divisor that shares a factor with the modulus (R397, U1). -/
  | divmodNotCoprime
  /-- `Undefined(EcSameX)`: `SW_ADD_NE` of points whose `x` are equal in the coordinate field (R402, U2). -/
  | ecSameX
  /-- `Undefined(EcNotOnCurve)`: a curve instruction on a point off the curve (R402, R403, U3). -/
  | ecNotOnCurve
  /-- `Undefined(EcDoubleOrder2)`: `SW_DOUBLE` of a point with `y = 0`, whose double has no encoding (R403, U3). -/
  | ecDoubleOrder2
deriving DecidableEq, Repr

/-- Why no step is taken although no instruction faulted. All are safe: the model stops. -/
inductive Refusal where
  /-- An instruction that the model has no meaning for yet. Raised by no instruction of this model. -/
  | notModelled (mnemonic : String)
  /-- A RISC-V word of the program has no transpilation, so that the program is rejected before the run (R149, R154, R476). Raised by
  every step of such a program. -/
  | noTranspilation
  /-- `iseqmod` with `rd = x0`, which the transpiler refuses (R475, R555, D33). Raised by `iseqmod`, and by every
  step of a program that holds such a word (R476). -/
  | iseqmodIntoX0
  /-- A 256-bit branch word for which `imm_branch256` is not supplied (R147, D23). Raised by `beq256` to
  `bgeu256`, and by every step of a program that holds such a word (R476). -/
  | immBranch256NotSupplied
  /-- A modulus index that is not configured (R476, R551). Raised by `addmod<N>` to `iseqmod<N>`, and by every
  step of a program that holds such a word. -/
  | modulusNotConfigured
  /-- A curve index that is not configured (R476, R556). Raised by `sw_add_ne<C>` and `sw_double<C>`, and by
  every step of a program that holds such a word. -/
  | curveNotConfigured
  /-- A step is asked of a run that has ended: "after it the machine takes no step" (R56, R181). Raised by the step. -/
  | runEnded
deriving DecidableEq, Repr

/-- A location of data memory: a pointer in an address space (R81). -/
structure Loc where
  space : Nat
  ptr : Nat
deriving DecidableEq, Repr

/-- Data memory: the cells whose content is not 0, by rising location. A cell that is not listed reads as 0 (DESIGN CHOICE, log 6,
unsafe: `init_mem` is an open parameter, R64). -/
abbrev Memory := List (Loc × Nat)

/-- A partial map with natural numbers as keys, by rising key: the program ROM and the public values. -/
abbrev NatMap (α : Type) := List (Nat × α)

/-- Whether the run goes on (R56). A failed run is the outcome `fault` of a step (R600); `failed` names it as a status. -/
inductive Status where
  | running
  | terminated (exitCode : Nat)
  | failed (cause : Fault)
deriving DecidableEq, Repr

/-- What the machine sends to the host's sinks (R57). -/
inductive HostEvent where
  /-- `PRINT_F` prints a field element (R187). -/
  | printed (v : Nat)
  /-- `CT_START` opens a tracing span (R194). -/
  | spanOpened
  /-- `CT_END` closes the current span (R195). -/
  | spanClosed
deriving DecidableEq, Repr

/-- The architectural state (R40), with the program ROM and the configuration, which the spec makes parameters of the step and no
step changes (log 2), the host's sinks as a log (R57, log 22), and the counter of free choices (log 12). -/
structure State where
  /-- The configuration (R6 to R12). -/
  cfg : Config
  /-- The program ROM (R58). -/
  prog : NatMap RomEntry
  /-- The program counter, one field element (R41). -/
  pc : Nat
  /-- Data memory, the registers among it (R45, R59). -/
  mem : Memory
  /-- The queue of input vectors (R53). -/
  inputStream : List (List Nat)
  /-- The queue of hint values (R54). -/
  hintStream : List Nat
  /-- The public values that are set (R55). -/
  publicValues : NatMap Nat
  /-- Running, terminated or failed (R56). -/
  status : Status
  /-- The host's sinks, oldest event first (R57). -/
  hostLog : List HostEvent
  /-- The number of free choices made so far, the model's own field (R392; log 12). -/
  draws : Nat
deriving DecidableEq, Repr

/-- The launch state (R640): nothing is loaded. `pc_start` and `init_mem` are open parameters of the spec, 0 here (DESIGN CHOICE, logs
5 and 6, unsafe). -/
def State.reset : State where
  cfg := Config.launch
  prog := []
  pc := 0
  mem := []
  inputStream := []
  hintStream := []
  publicValues := []
  status := .running
  hostLog := []
  draws := 0

end Sys2Proof.Machine
end

