-- ==== Sys2Proof/Machine/Ops.lean ====
section
/-!
DEFINITION. The named operations over memory, the register blocks, the program counter and the queues, and the one failure
mechanism of the machine.

The axVM has no exception entry and no return from one (R600, R612): `raise Invalid(cause)` is `Except.error cause`, a step
without a successor, and nothing the instruction would have written is written. The operations below answer in
`Except Fault`; the state they answer is the successor only when the whole instruction has run to its end.
-/

namespace Sys2Proof.Machine

/-! ### Failure -/

/-- `require cond else raise Invalid(cause)` (R27, R600). -/
def require (c : Prop) [Decidable c] (cause : Fault) : Except Fault Unit :=
  if c then .ok () else .error cause

/-- The outcome of an instruction: its successor state, or its fault (R600). -/
def outcome (r : Except Fault State) : Host.Outcome State Fault Refusal :=
  match r with
  | .ok s => .next s
  | .error cause => .fault cause

/-! ### The cells of memory -/

/-- The order of locations: by space, then by pointer. -/
abbrev Loc.Before (a b : Loc) : Prop := a.space < b.space ∨ (a.space = b.space ∧ a.ptr < b.ptr)

/-- `Mem[s][q]` (R25): the listed content, 0 where nothing is listed (log 6). -/
def Memory.read : Memory → Loc → Nat
  | [], _ => 0
  | (l, v) :: m, k => if l = k then v else Memory.read m k

/-- Lists a non-zero content at its place. -/
def Memory.insert : Memory → Loc → Nat → Memory
  | [], k, v => [(k, v)]
  | (l, w) :: m, k, v =>
    if l.Before k then (l, w) :: Memory.insert m k v else if l = k then (k, v) :: m else (k, v) :: (l, w) :: m

/-- Writes one cell; the content 0 is held by listing nothing. -/
def Memory.write (m : Memory) (k : Loc) (v : Nat) : Memory :=
  if v = 0 then m.filter (fun x => x.1 ≠ k) else Memory.insert m k v

/-- The canonical form: locations strictly rising, and no entry for a cell that holds 0. -/
abbrev Memory.wf (m : Memory) : Prop :=
  m.Pairwise (fun x y => x.1.Before y.1) ∧ ∀ x ∈ m, x.2 ≠ 0

/-- The `n` cells from pointer `q` upwards in space `s` (R25). -/
def Memory.readCells (m : Memory) (s q n : Nat) : List Nat :=
  (List.range n).map (fun i => m.read ⟨s, q + i⟩)

/-- Writes the elements of a list to the cells from pointer `q` upwards in space `s` (R25). -/
def Memory.writeCells (m : Memory) (s q : Nat) : List Nat → Memory
  | [] => m
  | v :: vs => Memory.writeCells (m.write ⟨s, q⟩ v) s (q + 1) vs

/-! ### Partial maps: the program ROM and the public values -/

/-- What a key is mapped to. -/
def NatMap.get? {α : Type} : NatMap α → Nat → Option α
  | [], _ => none
  | (j, x) :: m, k => if j = k then some x else NatMap.get? m k

/-- Maps a key, whatever it was mapped to. -/
def NatMap.insert {α : Type} : NatMap α → Nat → α → NatMap α
  | [], k, x => [(k, x)]
  | (j, y) :: m, k, x =>
    if j < k then (j, y) :: NatMap.insert m k x else if j = k then (k, x) :: m else (k, x) :: (j, y) :: m

/-- The canonical form: keys strictly rising. -/
abbrev NatMap.wf {α : Type} (m : NatMap α) : Prop := m.Pairwise (fun x y => x.1 < y.1)

/-! ### The checks of an access (R83 to R89) -/

/-- A valid address space with cells: supported, and not the space 0 of immediates (R83, R84). -/
abbrev ValidSpace (cfg : Config) (s : Nat) : Prop :=
  s ≠ 0 ∧ cfg.asOffset ≤ s ∧ s < cfg.asOffset + 2 ^ cfg.addrSpaceMaxBits

/-- The checks of `MemRead` and `MemWrite`, in order (R88). -/
def State.checkRange (st : State) (s q n : Nat) : Except Fault Unit := do
  require (ValidSpace st.cfg s) .badAddressSpace
  require (q + n ≤ 2 ^ st.cfg.pointerMaxBits) .pointerOutOfRange

/-- The checks of `BlockRead` and `BlockWrite`, in order (R89). -/
def State.checkBlock (st : State) (s q n : Nat) : Except Fault Unit := do
  st.checkRange s q n
  require (n ∈ supportedBlocks ∧ q % n = 0) .misaligned

/-- `MemRead(s, q, n)` (R25, R88). -/
def State.memRead (st : State) (s q n : Nat) : Except Fault (List Nat) := do
  st.checkRange s q n
  return st.mem.readCells s q n

/-- `MemWrite(s, q, n, L)` with `n` the length of `L` (R25, R88). -/
def State.memWrite (st : State) (s q : Nat) (l : List Nat) : Except Fault State := do
  st.checkRange s q l.length
  return { st with mem := st.mem.writeCells s q l }

/-- `BlockRead(s, q, N)` (R25, R89). -/
def State.blockRead (st : State) (s q n : Nat) : Except Fault (List Nat) := do
  st.checkBlock s q n
  return st.mem.readCells s q n

/-- `BlockWrite(s, q, N, L)` with `N` the length of `L` (R25, R89). -/
def State.blockWrite (st : State) (s q : Nat) (l : List Nat) : Except Fault State := do
  st.checkBlock s q l.length
  return { st with mem := st.mem.writeCells s q l }

/-- One cell, `MemRead(s, q, 1)[0]` (R25). -/
def State.cellRead (st : State) (s q : Nat) : Except Fault Nat := do
  st.checkRange s q 1
  return st.mem.read ⟨s, q⟩

/-- `BytesOf(L)`: every element is a byte (R26). -/
def bytesOf (l : List Nat) : Except Fault (List Nat) := do
  require (∀ v ∈ l, v < 256) .notByte
  return l

/-! ### Registers (R26) -/

/-- `Reg32(q)`: the register at pointer `q` of space 1 (R26). -/
def State.reg32 (st : State) (q : Nat) : Except Fault Word := do
  let l ← bytesOf (← st.blockRead 1 q 4)
  return BitVec.ofNat 32 (leNat l)

/-- `SetReg32(q, v)` (R26). -/
def State.setReg32 (st : State) (q : Nat) (v : Word) : Except Fault State :=
  st.blockWrite 1 q (leBytes v.toNat 4)

/-! ### The program counter (R43, R44) -/

/-- `pc <- t` with the range check of every new `pc` (R44). -/
def State.setPc (st : State) (t : Nat) : Except Fault State := do
  require (t < 2 ^ 30) .pcOutOfRange
  return { st with pc := t }

/-- The location of the next instruction, `pc +_F fe(4)` (R43). -/
def State.nextPc (st : State) : Nat := fadd st.cfg.p st.pc 4

/-- The default step, `pc <- pc +_F fe(4)` (R43). -/
def State.advance (st : State) : Except Fault State := st.setPc st.nextPc

/-- `Target(c)` of a transfer that happens: the integer sum of `pc` and the centred offset must be in `[0, 2^30)`, and the new `pc` is
the field sum (R281). For `pc` the value is `canon(pc)`, as R281 says, also where `2 * pc > p` (DEDUCED, log 29, unsafe). -/
def State.jumpBy (st : State) (c : Nat) : Except Fault State := do
  let t := (st.pc : Int) + centred st.cfg.p c
  require (0 ≤ t ∧ t < 2 ^ 30) .pcOutOfRange
  return { st with pc := fadd st.cfg.p st.pc c }

/-- `NTarget(off)`: the new `pc` of a native transfer (R44, R423). Where the offset is in the range of D30 this is `Target(off)`
(`nativeJumpBy_eq_jumpBy`). -/
def State.nativeJumpBy (st : State) (off : Nat) : Except Fault State := st.setPc (fadd st.cfg.p st.pc off)

/-! ### Enabled instructions (R129, R601) -/

/-- The instance of a mnemonic is configured: its block size `W` (R421), its modulus (R390) or its curve (R400); the extension field
exists only over BabyBear (R450). -/
def opConfigured (cfg : Config) : Op → Bool
  | .terminate => true
  | .phantom => true
  | .addRv32 => true
  | .subRv32 => true
  | .xorRv32 => true
  | .orRv32 => true
  | .andRv32 => true
  | .sllRv32 => true
  | .srlRv32 => true
  | .sraRv32 => true
  | .sltRv32 => true
  | .sltuRv32 => true
  | .loadbRv32 => true
  | .loadhRv32 => true
  | .loadwRv32 => true
  | .loadbuRv32 => true
  | .loadhuRv32 => true
  | .storebRv32 => true
  | .storehRv32 => true
  | .storewRv32 => true
  | .beqRv32 => true
  | .bneRv32 => true
  | .bltRv32 => true
  | .bgeRv32 => true
  | .bltuRv32 => true
  | .bgeuRv32 => true
  | .jalRv32 => true
  | .jalrRv32 => true
  | .luiRv32 => true
  | .auipcRv32 => true
  | .mulRv32 => true
  | .mulhRv32 => true
  | .mulhsuRv32 => true
  | .mulhuRv32 => true
  | .divRv32 => true
  | .divuRv32 => true
  | .remRv32 => true
  | .remuRv32 => true
  | .hintstorewRv32 => true
  | .keccak256Rv32 => true
  | .add256Rv32 => true
  | .sub256Rv32 => true
  | .xor256Rv32 => true
  | .or256Rv32 => true
  | .and256Rv32 => true
  | .sll256Rv32 => true
  | .srl256Rv32 => true
  | .sra256Rv32 => true
  | .slt256Rv32 => true
  | .sltu256Rv32 => true
  | .beq256Rv32 => true
  | .bne256Rv32 => true
  | .blt256Rv32 => true
  | .bge256Rv32 => true
  | .bltu256Rv32 => true
  | .bgeu256Rv32 => true
  | .mul256Rv32 => true
  | .addmodRv32 i => decide (i < cfg.moduli.length)
  | .submodRv32 i => decide (i < cfg.moduli.length)
  | .mulmodRv32 i => decide (i < cfg.moduli.length)
  | .divmodRv32 i => decide (i < cfg.moduli.length)
  | .iseqmodRv32 i => decide (i < cfg.moduli.length)
  | .swAddNe i => decide (i < cfg.curves.length)
  | .swDouble i => decide (i < cfg.curves.length)
  | .load w => cfg.widths.contains w
  | .store w => cfg.widths.contains w
  | .load2 => true
  | .store2 => true
  | .shintw => true
  | .jal => true
  | .beq w => cfg.widths.contains w
  | .bne w => cfg.widths.contains w
  | .publish => true
  | .castf => true
  | .addf => true
  | .subf => true
  | .mulf => true
  | .divf => true
  | .fe4add => cfg.p == babyBear
  | .fe4sub => cfg.p == babyBear
  | .bbe4mul => cfg.p == babyBear
  | .bbe4div => cfg.p == babyBear
  | .compressPoseidon2 => true
  | .permPoseidon2 => true

/-- The mnemonic is enabled: its class is, and its instance is configured (R11, R129). -/
def opEnabled (cfg : Config) (op : Op) : Bool := cfg.classes.contains op.cls && opConfigured cfg op

/-- The check of the opcode that precedes every other check of an instruction (R601). -/
def State.requireOp (st : State) (op : Op) : Except Fault Unit :=
  require (opEnabled st.cfg op) .unknownOpcode

/-! ### The hint stream (R54, R199) -/

/-- The first `n` elements of the hint stream (R199). -/
def State.hintPeek (st : State) (n : Nat) : Except Fault (List Nat) := do
  require (n ≤ st.hintStream.length) .hintStreamEmpty
  return st.hintStream.take n

/-- The hint stream without its first `n` elements (R199). -/
def State.hintDrop (st : State) (n : Nat) : State := { st with hintStream := st.hintStream.drop n }

/-! ### Free representatives (R392) -/

/-- How many numbers below `256^limbs` have the residue of `r0`, itself below the modulus `n` (R392). -/
def representatives (n limbs r0 : Nat) : Nat := (256 ^ limbs - 1 - r0) / n + 1

/-- A number in `[0, 256^limbs)` with the residue of `v` modulo `n`: which of them is the free choice number `k` (R392, U4; log 12).
Every admissible number is the answer for some value of the choice. -/
def representative (n limbs k : Nat) (v : Int) : Nat :=
  let r0 := (v % n).toNat
  r0 + n * (Config.freeChoice k % representatives n limbs r0)

/-- Counts `n` free choices as made. -/
def State.drew (st : State) (n : Nat) : State := { st with draws := st.draws + n }

/-! ### Host sinks (R57) -/

/-- Records an event of the host's sinks (R57). -/
def State.log (st : State) (ev : HostEvent) : State := { st with hostLog := st.hostLog ++ [ev] }

end Sys2Proof.Machine
end

