-- ==== Sys2Proof/Machine/Operands.lean ====
section
/-!
DEFINITION. The operand forms: immediates, the second operand of the ALU, effective addresses, and values in memory reached
through a register (R126, R221, R251, R351, R391, R401, R422, R440).
-/

namespace Sys2Proof.Machine

/-! ### Immediates (R126) -/

/-- The form of an ALU immediate: 24 bits, of which bits 23 to 16 copy bit 15 (R221). -/
abbrev AluImmediate (c : Nat) : Prop :=
  c < 2 ^ 24 ∧ c / 2 ^ 16 % 256 = if c / 2 ^ 15 % 2 = 1 then 255 else 0

/-- The range of an RV32 or 256-bit branch offset and of the `JAL_RV32` offset (R281, R365). -/
abbrev BranchOffset (p : Nat) (c : Nat) : Prop := -(2 ^ 24) ≤ centred p c ∧ centred p c < 2 ^ 24

/-- The range of a native offset: "native and 256-bit branch offsets in `[-2^24, 2^24)`" (D30), or any field element (R126, R423), as
the configuration says (DESIGN CHOICE, log 21). As for the RV32 branches the range does not depend on the comparison (R281). -/
abbrev NativeOffset (cfg : Config) (c : Nat) : Prop := cfg.nativeOffsets = .ranged → BranchOffset cfg.p c

/-- The second operand of an RV32 ALU instruction (R221); the form of an immediate is checked before (R601). -/
def State.op2 (st : State) (c e : Nat) : Except Fault Word :=
  if e = 0 then .ok (sext32 16 c) else st.reg32 c

/-! ### Pointers computed from a register -/

/-- `r32{c}(b)` as a signed 32-bit integer, for the base register's value (R19, R251). -/
def displaced (base : Word) (c : Nat) : Int := (base + sext32 16 c).toInt

/-- A signed pointer to `n` cells, all of which must be in `[0, 2^addr_max_bits)` (R95, R351, R391). -/
def State.pointer (st : State) (ptr : Int) (n : Nat) : Except Fault Nat := do
  require (0 ≤ ptr ∧ ptr + n ≤ 2 ^ st.cfg.pointerMaxBits) .pointerOutOfRange
  return ptr.toNat

/-- As `pointer`, with the start a multiple of `b` (R351, R391). -/
def State.alignedPointer (st : State) (ptr : Int) (n b : Nat) : Except Fault Nat := do
  let q ← st.pointer ptr n
  require (q % b = 0) .misaligned
  return q

/-- `EA(b, c)` with the alignment `b` of the access (R251, R252); the range of `c` is checked before (R263). -/
def State.effectiveAddress (st : State) (b c : Nat) (align : Nat) : Except Fault Nat := do
  let base ← st.reg32 b
  st.alignedPointer (displaced base c) 1 align

/-! ### Byte strings in user memory, reached through a register -/

/-- The pointer that register `q` holds to `n` cells aligned to `b` (`Ptr256`, `PtrBig`; R351, R391). -/
def State.regPointer (st : State) (q : Nat) (n b : Nat) : Except Fault Nat := do
  let r ← st.reg32 q
  st.alignedPointer r.toInt n b

/-- The little-endian number of the `n` byte cells of space 2 at the pointer that register `q` holds (`LoadBig`; R391). -/
def State.loadBytes (st : State) (q : Nat) (n b : Nat) : Except Fault (List Nat) := do
  let ptr ← st.regPointer q n b
  bytesOf (← st.memRead 2 ptr n)

/-- `Load256(q)` (R351). -/
def State.load256 (st : State) (q : Nat) : Except Fault Wide := do
  let l ← st.loadBytes q 32 32
  return BitVec.ofNat 256 (leNat l)

/-- `Store256(q, v)` (R351). -/
def State.store256 (st : State) (q : Nat) (v : Wide) : Except Fault State := do
  let ptr ← st.regPointer q 32 32
  st.memWrite 2 ptr (leBytes v.toNat 32)

/-- `shamt256(y)`: an amount below 256 is itself; above, the default is `y mod 256` and the configuration may say otherwise (R354,
D9; log 16). -/
def shamt256 (cfg : Config) (y : Wide) : Nat :=
  if y.toNat < 256 then y.toNat else ((cfg.shamt256.find? (fun x => x.1 == y.toNat)).map (·.2)).getD (y.toNat % 256)

/-! ### Native operands -/

/-- The cell that the pointer cell `[c]_d` displaced by `b` names: `[c]_d +_F b` (R422). -/
def State.nativePointer (st : State) (d c b : Nat) : Except Fault Nat := do
  let base ← st.cellRead d c
  return fadd st.cfg.p base b

/-- `[c]_d + [f]_d * g + b` in the field (R432). -/
def State.indexedPointer (st : State) (d c f g b : Nat) : Except Fault Nat := do
  let base ← st.cellRead d c
  let idx ← st.cellRead d f
  return fadd st.cfg.p (fadd st.cfg.p base (fmul st.cfg.p idx g)) b

/-- `Val(e, c)`: the operand itself for space 0, else the cell (R25, R84). -/
def State.val (st : State) (e c : Nat) : Except Fault Nat :=
  if e = 0 then .ok c else st.cellRead e c

end Sys2Proof.Machine
end

