-- ==== Sys2Proof/Machine/Alu.lean ====
section
/-!
DEFINITION. The ten RV32 ALU instructions (`41_rv32_alu.md`).
-/

namespace Sys2Proof.Machine

/-! ### The operations on 32-bit patterns -/

/-- `(x + y) mod 2^32` (R223). -/
def aluAdd (x y : Word) : Word := x + y
/-- `(x - y) mod 2^32` (R224). -/
def aluSub (x y : Word) : Word := x - y
/-- Bitwise exclusive or (R225). -/
def aluXor (x y : Word) : Word := x ^^^ y
/-- Bitwise or (R226). -/
def aluOr (x y : Word) : Word := x ||| y
/-- Bitwise and (R227). -/
def aluAnd (x y : Word) : Word := x &&& y
/-- The shift amount, the low five bits of the second operand (R233, D8). -/
def shamt32 (y : Word) : Nat := y.toNat % 32
/-- Left shift (R228). -/
def aluSll (x y : Word) : Word := x <<< shamt32 y
/-- Logical right shift (R229). -/
def aluSrl (x y : Word) : Word := x >>> shamt32 y
/-- Arithmetic right shift (R230). -/
def aluSra (x y : Word) : Word := x.sshiftRight (shamt32 y)
/-- Signed comparison (R231). -/
def aluSlt (x y : Word) : Word := boolWord 32 (condLt x y)
/-- Unsigned comparison (R232). -/
def aluSltu (x y : Word) : Word := boolWord 32 (condLtu x y)

/-! ### The instructions -/

/-- The skeleton of the ALU instructions: `[a:4]_1 = OP([b:4]_1, [c:4]_e)` (R220 to R222). -/
def execAlu (op : Op) (f : Word → Word → Word) (o : Operands) (s : State) : Host.Outcome State Fault Refusal := outcome do
  s.requireOp op
  require (o.d = 1 ∧ (o.e = 0 ∨ o.e = 1) ∧ o.f = 0 ∧ o.g = 0) .badOperand
  require (o.e = 0 → AluImmediate o.c) .badOperand
  let x ← s.reg32 o.b
  let y ← s.op2 o.c o.e
  let s' ← s.setReg32 o.a (f x y)
  s'.advance

/-- `ADD_RV32 a,b,c,1,e` (R223). -/
def execAddRv32 (o : Operands) (s : State) : Host.Outcome State Fault Refusal :=
  execAlu .addRv32 aluAdd o s

/-- `SUB_RV32 a,b,c,1,e` (R224). -/
def execSubRv32 (o : Operands) (s : State) : Host.Outcome State Fault Refusal :=
  execAlu .subRv32 aluSub o s

/-- `XOR_RV32 a,b,c,1,e` (R225). -/
def execXorRv32 (o : Operands) (s : State) : Host.Outcome State Fault Refusal :=
  execAlu .xorRv32 aluXor o s

/-- `OR_RV32 a,b,c,1,e` (R226). -/
def execOrRv32 (o : Operands) (s : State) : Host.Outcome State Fault Refusal :=
  execAlu .orRv32 aluOr o s

/-- `AND_RV32 a,b,c,1,e` (R227). -/
def execAndRv32 (o : Operands) (s : State) : Host.Outcome State Fault Refusal :=
  execAlu .andRv32 aluAnd o s

/-- `SLL_RV32 a,b,c,1,e` (R228). -/
def execSllRv32 (o : Operands) (s : State) : Host.Outcome State Fault Refusal :=
  execAlu .sllRv32 aluSll o s

/-- `SRL_RV32 a,b,c,1,e` (R229). -/
def execSrlRv32 (o : Operands) (s : State) : Host.Outcome State Fault Refusal :=
  execAlu .srlRv32 aluSrl o s

/-- `SRA_RV32 a,b,c,1,e` (R230). -/
def execSraRv32 (o : Operands) (s : State) : Host.Outcome State Fault Refusal :=
  execAlu .sraRv32 aluSra o s

/-- `SLT_RV32 a,b,c,1,e` (R231). -/
def execSltRv32 (o : Operands) (s : State) : Host.Outcome State Fault Refusal :=
  execAlu .sltRv32 aluSlt o s

/-- `SLTU_RV32 a,b,c,1,e` (R232). -/
def execSltuRv32 (o : Operands) (s : State) : Host.Outcome State Fault Refusal :=
  execAlu .sltuRv32 aluSltu o s

end Sys2Proof.Machine
end

