-- ==== Sys2Proof/Machine/Branch.lean ====
section
/-!
DEFINITION. The RV32 branches, jumps and upper immediates (`43_rv32_branch_jump.md`).
-/

namespace Sys2Proof.Machine

/-- The skeleton of the RV32 branches (R280 to R282). -/
def execBranch (op : Op) (cond : Word → Word → Bool) (o : Operands) (s : State) : Host.Outcome State Fault Refusal :=
  outcome do
    s.requireOp op
    require (o.d = 1 ∧ o.e = 1 ∧ o.f = 0 ∧ o.g = 0) .badOperand
    require (BranchOffset s.cfg.p o.c) .badOperand
    let x ← s.reg32 o.a
    let y ← s.reg32 o.b
    if cond x y then s.jumpBy o.c else s.advance

/-- `BEQ_RV32 a,b,c,1,1` (R283). -/
def execBeqRv32 (o : Operands) (s : State) : Host.Outcome State Fault Refusal :=
  execBranch .beqRv32 condEq o s

/-- `BNE_RV32 a,b,c,1,1` (R284). -/
def execBneRv32 (o : Operands) (s : State) : Host.Outcome State Fault Refusal :=
  execBranch .bneRv32 condNe o s

/-- `BLT_RV32 a,b,c,1,1` (R285). -/
def execBltRv32 (o : Operands) (s : State) : Host.Outcome State Fault Refusal :=
  execBranch .bltRv32 condLt o s

/-- `BGE_RV32 a,b,c,1,1` (R286). -/
def execBgeRv32 (o : Operands) (s : State) : Host.Outcome State Fault Refusal :=
  execBranch .bgeRv32 condGe o s

/-- `BLTU_RV32 a,b,c,1,1` (R287). -/
def execBltuRv32 (o : Operands) (s : State) : Host.Outcome State Fault Refusal :=
  execBranch .bltuRv32 condLtu o s

/-- `BGEU_RV32 a,b,c,1,1` (R288). -/
def execBgeuRv32 (o : Operands) (s : State) : Host.Outcome State Fault Refusal :=
  execBranch .bgeuRv32 condGeu o s

/-- `if f != 0: [a:4]_1 = decompose(pc + 4)` (R289, R290). -/
def State.link (s : State) (a f : Nat) : Except Fault State :=
  if f = 0 then .ok s else s.blockWrite 1 a (leBytes s.nextPc 4)

/-- `JAL_RV32 a,_,c,1,_,f` (R289). -/
def execJalRv32 (o : Operands) (s : State) : Host.Outcome State Fault Refusal := outcome do
  s.requireOp .jalRv32
  require (o.b = 0 ∧ o.d = 1 ∧ o.e = 0 ∧ (o.f = 0 ∨ o.f = 1) ∧ o.g = 0) .badOperand
  require (BranchOffset s.cfg.p o.c) .badOperand
  let s' ← s.link o.a o.f
  s'.jumpBy o.c

/-- `JALR_RV32 a,b,c,1,_,f`: the base register is read before the link is written, and bit 0 of the target stays (R290, D36). -/
def execJalrRv32 (o : Operands) (s : State) : Host.Outcome State Fault Refusal := outcome do
  s.requireOp .jalrRv32
  require (o.d = 1 ∧ o.e = 0 ∧ (o.f = 0 ∨ o.f = 1) ∧ o.g = 0) .badOperand
  require (o.c < 2 ^ 16) .badOperand
  let base ← s.reg32 o.b
  let t := displaced base o.c
  let s' ← s.link o.a o.f
  require (0 ≤ t ∧ t < 2 ^ 30) .pcOutOfRange
  s'.setPc (fe s.cfg.p t)

/-- `LUI_RV32 a,_,c,1,_,1` (R291). -/
def execLuiRv32 (o : Operands) (s : State) : Host.Outcome State Fault Refusal := outcome do
  s.requireOp .luiRv32
  require (o.b = 0 ∧ o.d = 1 ∧ o.e = 0 ∧ o.f = 1 ∧ o.g = 0) .badOperand
  require (o.c < 2 ^ 20) .badOperand
  let s' ← s.setReg32 o.a (BitVec.ofNat 32 (o.c * 2 ^ 12))
  s'.advance

/-- `AUIPC_RV32 a,_,c,1,_,_` (R292). -/
def execAuipcRv32 (o : Operands) (s : State) : Host.Outcome State Fault Refusal := outcome do
  s.requireOp .auipcRv32
  require (o.b = 0 ∧ o.d = 1 ∧ o.e = 0 ∧ o.f = 0 ∧ o.g = 0) .badOperand
  require (o.c < 2 ^ 20) .badOperand
  let s' ← s.setReg32 o.a (BitVec.ofNat 32 (s.pc + o.c * 2 ^ 12))
  s'.advance

end Sys2Proof.Machine
end

