-- ==== Sys2Proof/Machine/Curve.lean ====
section
/-!
DEFINITION. The short Weierstrass curve intrinsics (`47_rv32_modular_ec.md` section 4). The chord and tangent formulas are the spec's, from
general knowledge (PRESUMED by R402, R403 and G6; log 13, unsafe).
-/

namespace Sys2Proof.Machine

/-- The curve at a position of the configured list (R400). -/
def State.curve (s : State) (i : Nat) : Except Fault Curve :=
  match s.cfg.curves[i]? with
  | some c => .ok c
  | none => .error .unknownOpcode

/-- `(y^2 - x^3 - C::B) mod P = 0` (R402). -/
abbrev OnCurve (c : Curve) (x y : Nat) : Prop := ((y : Int) ^ 2 - (x : Int) ^ 3 - c.b) % c.p = 0

/-- `LoadPoint(q)`: the coordinates of the affine point at the pointer that register `q` holds (R401). -/
def State.loadPoint (s : State) (c : Curve) (q : Nat) : Except Fault (Nat × Nat) := do
  let l ← s.loadBytes q (2 * c.coordSize) c.blockSize
  return (leNat (l.take c.coordSize), leNat (l.drop c.coordSize))

/-- The cells of some point congruent to `(x, y)`, each coordinate by a free choice of its representative (R401, R402; log 13). -/
def pointCells (c : Curve) (k : Nat) (x y : Int) : List Nat :=
  leBytes (representative c.p c.coordSize k x) c.coordSize ++ leBytes (representative c.p c.coordSize (k + 1) y) c.coordSize

/-- `StorePoint`, at the pointer that the register value `ra` is (R401). -/
def State.storePoint (s : State) (c : Curve) (ra : Word) (x y : Int) : Except Fault State := do
  let ptr ← s.alignedPointer ra.toInt (2 * c.coordSize) c.blockSize
  let s' ← s.memWrite 2 ptr (pointCells c s.draws x y)
  return s'.drew 2

/-- The chord or tangent through `(x1, y1)` of slope `num / den` modulo `P`: the third point, negated, where the line meets the curve
again at `x2` (R402, R403). -/
def chord (p : Nat) (num den : Int) (x1 y1 x2 : Nat) : Int × Int :=
  let lam : Int := num * modInv (den % p).toNat p % p
  let x3 : Int := (lam ^ 2 - x1 - x2) % p
  (x3, (lam * (x1 - x3) - y1) % p)

/-- `SW_ADD_NE<C> a,b,c,1,2`: the sum of two points of different `x` on the curve (R402). -/
def execSwAddNe (i : Nat) (o : Operands) (s : State) : Host.Outcome State Fault Refusal := outcome do
  s.requireOp (.swAddNe i)
  require (o.d = 1 ∧ o.e = 2 ∧ o.f = 0 ∧ o.g = 0) .badOperand
  let c ← s.curve i
  let (x1, y1) ← s.loadPoint c o.b
  let (x2, y2) ← s.loadPoint c o.c
  let ra ← s.reg32 o.a
  require (((x1 : Int) - x2) % c.p ≠ 0) .ecSameX
  require (OnCurve c x1 y1 ∧ OnCurve c x2 y2) .ecNotOnCurve
  let (x3, y3) := chord c.p ((y2 : Int) - y1) ((x2 : Int) - x1) x1 y1 x2
  let s' ← s.storePoint c ra x3 y3
  s'.advance

/-- `SW_DOUBLE<C> a,b,_,1,2`: twice a point on the curve whose `y` is not 0 (R403). -/
def execSwDouble (i : Nat) (o : Operands) (s : State) : Host.Outcome State Fault Refusal := outcome do
  s.requireOp (.swDouble i)
  require (o.c = 0 ∧ o.d = 1 ∧ o.e = 2 ∧ o.f = 0 ∧ o.g = 0) .badOperand
  let c ← s.curve i
  let (x1, y1) ← s.loadPoint c o.b
  let ra ← s.reg32 o.a
  require (OnCurve c x1 y1) .ecNotOnCurve
  require ((2 * (y1 : Int)) % c.p ≠ 0) .ecDoubleOrder2
  let (x3, y3) := chord c.p (3 * (x1 : Int) ^ 2) (2 * (y1 : Int)) x1 y1 x1
  let s' ← s.storePoint c ra x3 y3
  s'.advance

end Sys2Proof.Machine
end

