-- ==== Sys2Proof/Machine/Int256.lean ====
section
/-!
DEFINITION. The RV32 intrinsics on 256-bit integers (`46_rv32_int256.md`).
-/

namespace Sys2Proof.Machine

/-! ### The operations on 256-bit patterns -/

/-- `(x + y) mod 2^256` (R355). -/
def wideAdd (x y : Wide) : Wide := x + y
/-- `(x - y) mod 2^256` (R356). -/
def wideSub (x y : Wide) : Wide := x - y
/-- Bitwise exclusive or (R357). -/
def wideXor (x y : Wide) : Wide := x ^^^ y
/-- Bitwise or (R358). -/
def wideOr (x y : Wide) : Wide := x ||| y
/-- Bitwise and (R359). -/
def wideAnd (x y : Wide) : Wide := x &&& y
/-- Left shift by `shamt256(y)` (R354, R360). -/
def wideSll (cfg : Config) (x y : Wide) : Wide := x <<< shamt256 cfg y
/-- Logical right shift by `shamt256(y)` (R354, R361). -/
def wideSrl (cfg : Config) (x y : Wide) : Wide := x >>> shamt256 cfg y
/-- Arithmetic right shift by `shamt256(y)` (R354, R362). -/
def wideSra (cfg : Config) (x y : Wide) : Wide := x.sshiftRight (shamt256 cfg y)
/-- Signed comparison (R363). -/
def wideSlt (x y : Wide) : Wide := boolWord 256 (condLt x y)
/-- Unsigned comparison (R364). -/
def wideSltu (x y : Wide) : Wide := boolWord 256 (condLtu x y)
/-- The low 256 bits of the product (R372). -/
def wideMul (x y : Wide) : Wide := x * y

/-! ### The instructions -/

/-- The skeleton of the 256-bit ALU and multiply: `[r32{0}(a):32]_2 = OP([r32{0}(b):32]_2, [r32{0}(c):32]_2)` (R350 to R353). -/
def execInt256 (op : Op) (f : Wide → Wide → Wide) (o : Operands) (s : State) : Host.Outcome State Fault Refusal := outcome do
  s.requireOp op
  require (o.d = 1 ∧ o.e = 2 ∧ o.f = 0 ∧ o.g = 0) .badOperand
  let x ← s.load256 o.b
  let y ← s.load256 o.c
  let s' ← s.store256 o.a (f x y)
  s'.advance

/-- The skeleton of the 256-bit branches (R365). -/
def execBranch256 (op : Op) (cond : Wide → Wide → Bool) (o : Operands) (s : State) : Host.Outcome State Fault Refusal :=
  outcome do
    s.requireOp op
    require (o.d = 1 ∧ o.e = 2 ∧ o.f = 0 ∧ o.g = 0) .badOperand
    require (BranchOffset s.cfg.p o.c) .badOperand
    let x ← s.load256 o.a
    let y ← s.load256 o.b
    if cond x y then s.jumpBy o.c else s.advance

/-- `ADD256_RV32 a,b,c,1,2` (R355). -/
def execAdd256Rv32 (o : Operands) (s : State) : Host.Outcome State Fault Refusal :=
  execInt256 .add256Rv32 wideAdd o s

/-- `SUB256_RV32 a,b,c,1,2` (R356). -/
def execSub256Rv32 (o : Operands) (s : State) : Host.Outcome State Fault Refusal :=
  execInt256 .sub256Rv32 wideSub o s

/-- `XOR256_RV32 a,b,c,1,2` (R357). -/
def execXor256Rv32 (o : Operands) (s : State) : Host.Outcome State Fault Refusal :=
  execInt256 .xor256Rv32 wideXor o s

/-- `OR256_RV32 a,b,c,1,2` (R358). -/
def execOr256Rv32 (o : Operands) (s : State) : Host.Outcome State Fault Refusal :=
  execInt256 .or256Rv32 wideOr o s

/-- `AND256_RV32 a,b,c,1,2` (R359). -/
def execAnd256Rv32 (o : Operands) (s : State) : Host.Outcome State Fault Refusal :=
  execInt256 .and256Rv32 wideAnd o s

/-- `SLL256_RV32 a,b,c,1,2` (R360). -/
def execSll256Rv32 (o : Operands) (s : State) : Host.Outcome State Fault Refusal :=
  execInt256 .sll256Rv32 (wideSll s.cfg) o s

/-- `SRL256_RV32 a,b,c,1,2` (R361). -/
def execSrl256Rv32 (o : Operands) (s : State) : Host.Outcome State Fault Refusal :=
  execInt256 .srl256Rv32 (wideSrl s.cfg) o s

/-- `SRA256_RV32 a,b,c,1,2` (R362). -/
def execSra256Rv32 (o : Operands) (s : State) : Host.Outcome State Fault Refusal :=
  execInt256 .sra256Rv32 (wideSra s.cfg) o s

/-- `SLT256_RV32 a,b,c,1,2` (R363). -/
def execSlt256Rv32 (o : Operands) (s : State) : Host.Outcome State Fault Refusal :=
  execInt256 .slt256Rv32 wideSlt o s

/-- `SLTU256_RV32 a,b,c,1,2` (R364). -/
def execSltu256Rv32 (o : Operands) (s : State) : Host.Outcome State Fault Refusal :=
  execInt256 .sltu256Rv32 wideSltu o s

/-- `BEQ256_RV32 a,b,c,1,2` (R366). -/
def execBeq256Rv32 (o : Operands) (s : State) : Host.Outcome State Fault Refusal :=
  execBranch256 .beq256Rv32 condEq o s

/-- `BNE256_RV32 a,b,c,1,2` (R367). -/
def execBne256Rv32 (o : Operands) (s : State) : Host.Outcome State Fault Refusal :=
  execBranch256 .bne256Rv32 condNe o s

/-- `BLT256_RV32 a,b,c,1,2` (R368). -/
def execBlt256Rv32 (o : Operands) (s : State) : Host.Outcome State Fault Refusal :=
  execBranch256 .blt256Rv32 condLt o s

/-- `BGE256_RV32 a,b,c,1,2` (R369). -/
def execBge256Rv32 (o : Operands) (s : State) : Host.Outcome State Fault Refusal :=
  execBranch256 .bge256Rv32 condGe o s

/-- `BLTU256_RV32 a,b,c,1,2` (R370). -/
def execBltu256Rv32 (o : Operands) (s : State) : Host.Outcome State Fault Refusal :=
  execBranch256 .bltu256Rv32 condLtu o s

/-- `BGEU256_RV32 a,b,c,1,2` (R371). -/
def execBgeu256Rv32 (o : Operands) (s : State) : Host.Outcome State Fault Refusal :=
  execBranch256 .bgeu256Rv32 condGeu o s

/-- `MUL256_RV32 a,b,c,1,2` (R372). -/
def execMul256Rv32 (o : Operands) (s : State) : Host.Outcome State Fault Refusal :=
  execInt256 .mul256Rv32 wideMul o s

end Sys2Proof.Machine
end

