-- ==== Sys2Proof/Machine/IoHash.lean ====
section
/-!
DEFINITION. The RV32 user IO and hash intrinsics (`45_rv32_io_hash.md`).
-/

namespace Sys2Proof.Machine

/-- `HINTSTOREW_RV32 _,b,c,1,2`: the next four hint elements, which must be bytes, go to user memory (R330). -/
def execHintstorewRv32 (o : Operands) (s : State) : Host.Outcome State Fault Refusal := outcome do
  s.requireOp .hintstorewRv32
  require (o.a = 0 ∧ o.d = 1 ∧ o.e = 2 ∧ o.f = 0 ∧ o.g = 0) .badOperand
  require (o.c < 2 ^ 16) .badOperand
  let ptr ← s.effectiveAddress o.b o.c 4
  let l ← bytesOf (← s.hintPeek 4)
  let s' ← s.blockWrite 2 ptr l
  (s'.hintDrop 4).advance

/-- `REVEAL_RV32 a,b,c,1,3`: the pseudo-instruction for `STOREW_RV32 a,b,c,1,3`, whose opcode it has (R130, R331). -/
def execRevealRv32 (o : Operands) (s : State) : Host.Outcome State Fault Refusal := outcome do
  s.requireOp .storewRv32
  require (o.d = 1 ∧ o.e = 3 ∧ o.f = 0 ∧ o.g = 0) .badOperand
  require (o.c < 2 ^ 16) .badOperand
  s.checkBlock 1 o.a 4
  s.checkBlock 1 o.b 4
  let l ← bytesOf (← s.blockRead 1 o.a 4)
  let ptr ← s.effectiveAddress o.b o.c 4
  let s' ← s.memWrite 3 ptr l
  s'.advance

/-- The 32 bytes of the digest of a message (R332, R333; log 14). -/
def keccakDigest (m : List Nat) : List Nat := (List.finRange 32).map (fun j => (Config.keccak256 m j).toNat)

/-- `KECCAK256_RV32 a,b,c,1,e`: `[r32{0}(a):32]_e = keccak256([r32{0}(b)..r32{0}(b)+r32{0}(c)]_e)` (R332, R333). -/
def execKeccak256Rv32 (o : Operands) (s : State) : Host.Outcome State Fault Refusal := outcome do
  s.requireOp .keccak256Rv32
  require (o.d = 1 ∧ o.f = 0 ∧ o.g = 0) .badOperand
  require (ValidSpace s.cfg o.e) .badAddressSpace
  let dst := (← s.reg32 o.a).toInt
  let src := (← s.reg32 o.b).toInt
  let len := (← s.reg32 o.c).toInt
  require (0 ≤ len) .pointerOutOfRange
  let src' ← s.pointer src len.toNat
  let dst' ← s.pointer dst 32
  require (src' % 4 = 0 ∧ dst' % 4 = 0) .misaligned
  let m ← bytesOf (← s.memRead o.e src' len.toNat)
  let s' ← s.memWrite o.e dst' (keccakDigest m)
  s'.advance

end Sys2Proof.Machine
end

