-- ==== Sys2Proof/Machine/LoadStore.lean ====
section
/-!
DEFINITION. The eight RV32 loads and stores (`42_rv32_loadstore.md`).
-/

namespace Sys2Proof.Machine

/-- The value of an access's bytes, sign-extended from `n` bytes (R254, R255). -/
def signedLoad (n : Nat) (l : List Nat) : Word := sext32 (8 * n) (leNat l)

/-- The value of an access's bytes, zero-extended (R256 to R258). -/
def unsignedLoad (l : List Nat) : Word := BitVec.ofNat 32 (leNat l)

/-- The checks of the fixed operands and of the two register pointers, in order (R263). -/
def State.loadStoreChecks (s : State) (op : Op) (o : Operands) : Except Fault Unit := do
  s.requireOp op
  require (o.d = 1 ∧ o.f = 0 ∧ o.g = 0) .badOperand
  require (ValidSpace s.cfg o.e) .badAddressSpace
  require (o.c < 2 ^ 16) .badOperand
  s.checkBlock 1 o.a 4
  s.checkBlock 1 o.b 4

/-- The skeleton of the loads: `[a:4]_1 = conv([r32{c}(b):n]_e)`, the access aligned to `n` (R251 to R253, R263). -/
def execLoad (op : Op) (n : Nat) (conv : List Nat → Word) (o : Operands) (s : State) : Host.Outcome State Fault Refusal :=
  outcome do
    s.loadStoreChecks op o
    let ptr ← s.effectiveAddress o.b o.c n
    let l ← bytesOf (← s.memRead o.e ptr n)
    let s' ← s.setReg32 o.a (conv l)
    s'.advance

/-- The skeleton of the stores: `[r32{c}(b):n]_e <- [a:n]_1`, the access aligned to `n` (R251 to R253, R262, R263). -/
def execStore (op : Op) (n : Nat) (o : Operands) (s : State) : Host.Outcome State Fault Refusal := outcome do
  s.loadStoreChecks op o
  let l ← bytesOf (← s.blockRead 1 o.a 4)
  let ptr ← s.effectiveAddress o.b o.c n
  let s' ← s.memWrite o.e ptr (l.take n)
  s'.advance

/-- `LOADB_RV32 a,b,c,1,e` (R254). -/
def execLoadbRv32 (o : Operands) (s : State) : Host.Outcome State Fault Refusal :=
  execLoad .loadbRv32 1 (signedLoad 1) o s

/-- `LOADH_RV32 a,b,c,1,e` (R255). -/
def execLoadhRv32 (o : Operands) (s : State) : Host.Outcome State Fault Refusal :=
  execLoad .loadhRv32 2 (signedLoad 2) o s

/-- `LOADW_RV32 a,b,c,1,e` (R256). -/
def execLoadwRv32 (o : Operands) (s : State) : Host.Outcome State Fault Refusal :=
  execLoad .loadwRv32 4 unsignedLoad o s

/-- `LOADBU_RV32 a,b,c,1,e` (R257). -/
def execLoadbuRv32 (o : Operands) (s : State) : Host.Outcome State Fault Refusal :=
  execLoad .loadbuRv32 1 unsignedLoad o s

/-- `LOADHU_RV32 a,b,c,1,e` (R258). -/
def execLoadhuRv32 (o : Operands) (s : State) : Host.Outcome State Fault Refusal :=
  execLoad .loadhuRv32 2 unsignedLoad o s

/-- `STOREB_RV32 a,b,c,1,e` (R259, R262). -/
def execStorebRv32 (o : Operands) (s : State) : Host.Outcome State Fault Refusal :=
  execStore .storebRv32 1 o s

/-- `STOREH_RV32 a,b,c,1,e` (R260, R262). -/
def execStorehRv32 (o : Operands) (s : State) : Host.Outcome State Fault Refusal :=
  execStore .storehRv32 2 o s

/-- `STOREW_RV32 a,b,c,1,e` (R261, R262). -/
def execStorewRv32 (o : Operands) (s : State) : Host.Outcome State Fault Refusal :=
  execStore .storewRv32 4 o s

end Sys2Proof.Machine
end

