-- ==== Sys2Proof/Machine/Modular.lean ====
section
/-!
DEFINITION. The modular arithmetic intrinsics (`47_rv32_modular_ec.md` sections 1 to 3).
-/

namespace Sys2Proof.Machine

/-- The modulus at a position of the configured list (R390). -/
def State.modulus (s : State) (i : Nat) : Except Fault Modulus :=
  match s.cfg.moduli[i]? with
  | some m => .ok m
  | none => .error .unknownOpcode

/-- The skeleton of the four arithmetic instructions: some representative of `OPN(x, y)` is written (R391 to R393). `f` is `OPN` with
the pre-condition of the instruction. -/
def execModular (op : Op) (f : Nat → Nat → Nat → Except Fault Int) (i : Nat) (o : Operands) (s : State) :
    Host.Outcome State Fault Refusal := outcome do
  s.requireOp op
  require (o.d = 1 ∧ o.e = 2 ∧ o.f = 0 ∧ o.g = 0) .badOperand
  let m ← s.modulus i
  let x ← s.loadBytes o.b m.numLimbs m.blockSize
  let y ← s.loadBytes o.c m.numLimbs m.blockSize
  let ra ← s.reg32 o.a
  let v ← f m.n (leNat x) (leNat y)
  let ptr ← s.alignedPointer ra.toInt m.numLimbs m.blockSize
  let s' ← s.memWrite 2 ptr (leBytes (representative m.n m.numLimbs s.draws v) m.numLimbs)
  (s'.drew 1).advance

/-- `OPN(x, y) = x + y` (R394). -/
def modAdd (_n x y : Nat) : Except Fault Int := .ok ((x : Int) + y)
/-- `OPN(x, y) = x - y` (R395). -/
def modSub (_n x y : Nat) : Except Fault Int := .ok ((x : Int) - y)
/-- `OPN(x, y) = x * y` (R396). -/
def modMul (_n x y : Nat) : Except Fault Int := .ok ((x : Int) * y)
/-- `OPN(x, y) = x * inv` with `inv` the inverse of `y`; undefined, hence a fault, where `gcd(y, N)` is not 1 (R397, U1). -/
def modDiv (n x y : Nat) : Except Fault Int := do
  require (Nat.gcd y n = 1) .divmodNotCoprime
  return (x : Int) * modInv y n

/-- `ADDMOD_RV32<N> a,b,c,1,2` (R394). -/
def execAddmodRv32 (i : Nat) (o : Operands) (s : State) : Host.Outcome State Fault Refusal :=
  execModular (.addmodRv32 i) modAdd i o s

/-- `SUBMOD_RV32<N> a,b,c,1,2` (R395). -/
def execSubmodRv32 (i : Nat) (o : Operands) (s : State) : Host.Outcome State Fault Refusal :=
  execModular (.submodRv32 i) modSub i o s

/-- `MULMOD_RV32<N> a,b,c,1,2` (R396). -/
def execMulmodRv32 (i : Nat) (o : Operands) (s : State) : Host.Outcome State Fault Refusal :=
  execModular (.mulmodRv32 i) modMul i o s

/-- `DIVMOD_RV32<N> a,b,c,1,2` (R397). -/
def execDivmodRv32 (i : Nat) (o : Operands) (s : State) : Host.Outcome State Fault Refusal :=
  execModular (.divmodRv32 i) modDiv i o s

/-- `ISEQMOD_RV32<N> a,b,c,1,2`: both inputs must be below `N`; the register `a` is set to 1 or 0 (R398). -/
def execIseqmodRv32 (i : Nat) (o : Operands) (s : State) : Host.Outcome State Fault Refusal := outcome do
  s.requireOp (.iseqmodRv32 i)
  require (o.d = 1 ∧ o.e = 2 ∧ o.f = 0 ∧ o.g = 0) .badOperand
  let m ← s.modulus i
  let x ← s.loadBytes o.b m.numLimbs m.blockSize
  let y ← s.loadBytes o.c m.numLimbs m.blockSize
  require (leNat x < m.n ∧ leNat y < m.n) .notReduced
  let s' ← s.setReg32 o.a (boolWord 32 (decide (leNat x = leNat y)))
  s'.advance

end Sys2Proof.Machine
end

