-- ==== Sys2Proof/Machine/MulDiv.lean ====
section
/-!
DEFINITION. The RV32 multiplication extension (`44_rv32_muldiv.md`).
-/

namespace Sys2Proof.Machine

/-! ### The operations on 32-bit patterns -/

/-- The low 32 bits of the product (R311). -/
def mulLow (x y : Word) : Word := x * y
/-- The high 32 bits of the signed product (R312). -/
def mulHighSigned (x y : Word) : Word := (x.signExtend 64 * y.signExtend 64).extractLsb' 32 32
/-- The high 32 bits of the product of a signed and an unsigned number (R313). -/
def mulHighSignedUnsigned (x y : Word) : Word := (x.signExtend 64 * y.setWidth 64).extractLsb' 32 32
/-- The high 32 bits of the unsigned product (R314). -/
def mulHighUnsigned (x y : Word) : Word := (x.setWidth 64 * y.setWidth 64).extractLsb' 32 32
/-- Signed quotient; `-1` for the divisor 0, `-2^31` for the overflow (R315, R320). -/
def divSigned (sign : DivRemSign) (x y : Word) : Word :=
  if y = 0 then BitVec.allOnes 32
  else if x.toInt = -(2 ^ 31) ∧ y.toInt = -1 then BitVec.ofInt 32 (-(2 ^ 31))
  else BitVec.ofInt 32 (signedDivRem sign x.toInt y.toInt).1
/-- Unsigned quotient; `2^32 - 1` for the divisor 0 (R316). -/
def divUnsigned (x y : Word) : Word := if y = 0 then BitVec.allOnes 32 else x / y
/-- Signed remainder; the dividend for the divisor 0, 0 for the overflow (R317, R320). -/
def remSigned (sign : DivRemSign) (x y : Word) : Word :=
  if y = 0 then x
  else if x.toInt = -(2 ^ 31) ∧ y.toInt = -1 then 0
  else BitVec.ofInt 32 (signedDivRem sign x.toInt y.toInt).2
/-- Unsigned remainder; the dividend for the divisor 0 (R318). -/
def remUnsigned (x y : Word) : Word := if y = 0 then x else x % y

/-! ### The instructions -/

/-- The skeleton of the multiplication extension: `[a:4]_1 = OP([b:4]_1, [c:4]_1)` (R310). -/
def execMulDiv (op : Op) (f : Word → Word → Word) (o : Operands) (s : State) : Host.Outcome State Fault Refusal := outcome do
  s.requireOp op
  require (o.d = 1 ∧ o.e = 0 ∧ o.f = 0 ∧ o.g = 0) .badOperand
  let x ← s.reg32 o.b
  let y ← s.reg32 o.c
  let s' ← s.setReg32 o.a (f x y)
  s'.advance

/-- `MUL_RV32 a,b,c,1` (R311). -/
def execMulRv32 (o : Operands) (s : State) : Host.Outcome State Fault Refusal :=
  execMulDiv .mulRv32 mulLow o s

/-- `MULH_RV32 a,b,c,1` (R312). -/
def execMulhRv32 (o : Operands) (s : State) : Host.Outcome State Fault Refusal :=
  execMulDiv .mulhRv32 mulHighSigned o s

/-- `MULHSU_RV32 a,b,c,1` (R313). -/
def execMulhsuRv32 (o : Operands) (s : State) : Host.Outcome State Fault Refusal :=
  execMulDiv .mulhsuRv32 mulHighSignedUnsigned o s

/-- `MULHU_RV32 a,b,c,1` (R314). -/
def execMulhuRv32 (o : Operands) (s : State) : Host.Outcome State Fault Refusal :=
  execMulDiv .mulhuRv32 mulHighUnsigned o s

/-- `DIV_RV32 a,b,c,1` (R315). -/
def execDivRv32 (o : Operands) (s : State) : Host.Outcome State Fault Refusal :=
  execMulDiv .divRv32 (divSigned s.cfg.divRemSign) o s

/-- `DIVU_RV32 a,b,c,1` (R316). -/
def execDivuRv32 (o : Operands) (s : State) : Host.Outcome State Fault Refusal :=
  execMulDiv .divuRv32 divUnsigned o s

/-- `REM_RV32 a,b,c,1` (R317). -/
def execRemRv32 (o : Operands) (s : State) : Host.Outcome State Fault Refusal :=
  execMulDiv .remRv32 (remSigned s.cfg.divRemSign) o s

/-- `REMU_RV32 a,b,c,1` (R318). -/
def execRemuRv32 (o : Operands) (s : State) : Host.Outcome State Fault Refusal :=
  execMulDiv .remuRv32 remUnsigned o s

end Sys2Proof.Machine
end

