-- ==== Sys2Proof/Machine/Native.lean ====
section
/-!
DEFINITION. The native kernel (`48_native_kernel.md`).
-/

namespace Sys2Proof.Machine

/-! ### Checks of the operands -/

/-- `d, e` valid and non-zero (R420). -/
def State.nativeSpaces (s : State) (d e : Nat) : Except Fault Unit :=
  require (ValidSpace s.cfg d ∧ ValidSpace s.cfg e) .badAddressSpace

/-- `f = g = 0` (R124). -/
def noFG (o : Operands) : Except Fault Unit := require (o.f = 0 ∧ o.g = 0) .badOperand

/-! ### Base -/

/-- `LOAD<W> a,b,c,d,e`: `[a:W]_d = [[c]_d + b:W]_e` (R430). -/
def execLoadNative (w : Nat) (o : Operands) (s : State) : Host.Outcome State Fault Refusal := outcome do
  s.requireOp (.load w)
  s.nativeSpaces o.d o.e
  noFG o
  let q ← s.nativePointer o.d o.c o.b
  let l ← s.blockRead o.e q w
  let s' ← s.blockWrite o.d o.a l
  s'.advance

/-- `STORE<W> a,b,c,d,e`: `[[c]_d + b:W]_e = [a:W]_d` (R431). -/
def execStoreNative (w : Nat) (o : Operands) (s : State) : Host.Outcome State Fault Refusal := outcome do
  s.requireOp (.store w)
  s.nativeSpaces o.d o.e
  noFG o
  let q ← s.nativePointer o.d o.c o.b
  let l ← s.blockRead o.d o.a w
  let s' ← s.blockWrite o.e q l
  s'.advance

/-- `LOAD2 a,b,c,d,e,f,g`: `[a]_d = [[c]_d + [f]_d * g + b]_e` (R432). -/
def execLoad2 (o : Operands) (s : State) : Host.Outcome State Fault Refusal := outcome do
  s.requireOp .load2
  s.nativeSpaces o.d o.e
  let q ← s.indexedPointer o.d o.c o.f o.g o.b
  let v ← s.cellRead o.e q
  let s' ← s.memWrite o.d o.a [v]
  s'.advance

/-- `STORE2 a,b,c,d,e,f,g`: `[[c]_d + [f]_d * g + b]_e = [a]_d` (R433). -/
def execStore2 (o : Operands) (s : State) : Host.Outcome State Fault Refusal := outcome do
  s.requireOp .store2
  s.nativeSpaces o.d o.e
  let q ← s.indexedPointer o.d o.c o.f o.g o.b
  let v ← s.cellRead o.d o.a
  let s' ← s.memWrite o.e q [v]
  s'.advance

/-- `SHINTW _,b,c,d,e`: `[[c]_d + b]_e` = the next element of the hint stream (R434). -/
def execShintw (o : Operands) (s : State) : Host.Outcome State Fault Refusal := outcome do
  s.requireOp .shintw
  require (o.a = 0) .badOperand
  s.nativeSpaces o.d o.e
  noFG o
  let q ← s.nativePointer o.d o.c o.b
  let l ← s.hintPeek 1
  let s' ← s.memWrite o.e q l
  (s'.hintDrop 1).advance

/-- `JAL a,b,c,d`: `[a]_d = pc + 4`, `pc = pc + b` (R435); the range of `b` is the configuration's (D30, log 21). -/
def execJal (o : Operands) (s : State) : Host.Outcome State Fault Refusal := outcome do
  s.requireOp .jal
  require (o.c = 0) .badOperand
  require (ValidSpace s.cfg o.d) .badAddressSpace
  require (o.e = 0 ∧ o.f = 0 ∧ o.g = 0) .badOperand
  require (NativeOffset s.cfg o.b) .badOperand
  let s' ← s.memWrite o.d o.a [s.nextPc]
  s'.nativeJumpBy o.b

/-- The skeleton of the native branches: `c` is added to `pc` where the comparison of the two blocks answers `sense` (R437, R438);
the range of `c` is the configuration's (D30, log 21). -/
def execNativeBranch (op : Op) (sense : Bool) (w : Nat) (o : Operands) (s : State) : Host.Outcome State Fault Refusal :=
  outcome do
    s.requireOp op
    s.nativeSpaces o.d o.e
    noFG o
    require (NativeOffset s.cfg o.c) .badOperand
    let x ← s.blockRead o.d o.a w
    let y ← s.blockRead o.e o.b w
    if decide (x = y) = sense then s.nativeJumpBy o.c else s.advance

/-- `BEQ<W> a,b,c,d,e` (R437). -/
def execBeq (w : Nat) (o : Operands) (s : State) : Host.Outcome State Fault Refusal := execNativeBranch (.beq w) true w o s

/-- `BNE<W> a,b,c,d,e` (R438). -/
def execBne (w : Nat) (o : Operands) (s : State) : Host.Outcome State Fault Refusal := execNativeBranch (.bne w) false w o s

/-- Fixes the public value at an index, or checks it where it is fixed (R436). -/
def State.publish (s : State) (i : Nat) (v : Nat) : Except Fault State :=
  match s.publicValues.get? i with
  | none => .ok { s with publicValues := s.publicValues.insert i v }
  | some u => do
    require (u = v) .publishMismatch
    return s

/-- `PUBLISH a,b,_,d,e`: the public value at index `[a]_d` equals `[b]_e` (R436). -/
def execPublish (o : Operands) (s : State) : Host.Outcome State Fault Refusal := outcome do
  s.requireOp .publish
  require (o.c = 0) .badOperand
  s.nativeSpaces o.d o.e
  noFG o
  let i ← s.cellRead o.d o.a
  let v ← s.cellRead o.e o.b
  require (i < s.cfg.numPublicValues) .publicIndexOutOfRange
  let s' ← s.publish i v
  s'.advance

/-- `CASTF a,b,_,d,e`: `[a:4]_d` = the four little-endian bytes of `[b]_e`, which must be below `2^30` (R439). -/
def execCastf (o : Operands) (s : State) : Host.Outcome State Fault Refusal := outcome do
  s.requireOp .castf
  require (o.c = 0) .badOperand
  s.nativeSpaces o.d o.e
  noFG o
  let v ← s.cellRead o.e o.b
  require (v < 2 ^ 30) .castfRange
  let s' ← s.blockWrite o.d o.a (leBytes v 4)
  s'.advance

/-! ### Field arithmetic -/

/-- The skeleton of the native field instructions: `[a]_d = OPF([b]_d, [c]_e)`, with `c` itself for `e = 0` (R440). -/
def execField (op : Op) (f : Nat → Nat → Nat → Except Fault Nat) (o : Operands) (s : State) :
    Host.Outcome State Fault Refusal := outcome do
  s.requireOp op
  require (ValidSpace s.cfg o.d) .badAddressSpace
  require (o.e = 0 ∨ ValidSpace s.cfg o.e) .badAddressSpace
  noFG o
  let x ← s.cellRead o.d o.b
  let y ← s.val o.e o.c
  let v ← f s.cfg.p x y
  let s' ← s.memWrite o.d o.a [v]
  s'.advance

/-- Field addition (R441). -/
def fieldAdd (p : Nat) (x y : Nat) : Except Fault Nat := .ok (fadd p x y)
/-- Field subtraction (R442). -/
def fieldSub (p : Nat) (x y : Nat) : Except Fault Nat := .ok (fsub p x y)
/-- Field multiplication (R443). -/
def fieldMul (p : Nat) (x y : Nat) : Except Fault Nat := .ok (fmul p x y)
/-- Field division; "Division by zero is invalid" (R444). -/
def fieldDiv (p : Nat) (x y : Nat) : Except Fault Nat := do
  require (y ≠ 0) .divByZeroF
  return fdiv p x y

/-- `ADDF a,b,c,d,e` (R441). -/
def execAddf (o : Operands) (s : State) : Host.Outcome State Fault Refusal :=
  execField .addf fieldAdd o s

/-- `SUBF a,b,c,d,e` (R442). -/
def execSubf (o : Operands) (s : State) : Host.Outcome State Fault Refusal :=
  execField .subf fieldSub o s

/-- `MULF a,b,c,d,e` (R443). -/
def execMulf (o : Operands) (s : State) : Host.Outcome State Fault Refusal :=
  execField .mulf fieldMul o s

/-- `DIVF a,b,c,d,e` (R444). -/
def execDivf (o : Operands) (s : State) : Host.Outcome State Fault Refusal :=
  execField .divf fieldDiv o s

/-! ### Extension field arithmetic -/

/-- The skeleton of the extension field instructions: `[a:4]_d = OPE([b:4]_d, [c:4]_e)` (R450). -/
def execExt (op : Op) (f : Nat → Ext → Ext → Except Fault Ext) (o : Operands) (s : State) :
    Host.Outcome State Fault Refusal := outcome do
  s.requireOp op
  s.nativeSpaces o.d o.e
  noFG o
  let x ← s.blockRead o.d o.b 4
  let y ← s.blockRead o.e o.c 4
  let z ← f s.cfg.p (Ext.ofList x) (Ext.ofList y)
  let s' ← s.blockWrite o.d o.a z.toList
  s'.advance

/-- Vector addition (R451). -/
def quarticAdd (p : Nat) (x y : Ext) : Except Fault Ext := .ok (extAdd p x y)
/-- Vector subtraction (R452). -/
def quarticSub (p : Nat) (x y : Ext) : Except Fault Ext := .ok (extSub p x y)
/-- Extension field multiplication (R453). -/
def quarticMul (p : Nat) (x y : Ext) : Except Fault Ext := .ok (extMul p x y)
/-- Extension field division; "Division by zero is invalid" (R454). -/
def quarticDiv (p : Nat) (x y : Ext) : Except Fault Ext := do
  require (y ≠ ⟨0, 0, 0, 0⟩) .divByZeroF
  return extDiv p x y

/-- `FE4ADD a,b,c,d,e` (R451). -/
def execFe4add (o : Operands) (s : State) : Host.Outcome State Fault Refusal :=
  execExt .fe4add quarticAdd o s

/-- `FE4SUB a,b,c,d,e` (R452). -/
def execFe4sub (o : Operands) (s : State) : Host.Outcome State Fault Refusal :=
  execExt .fe4sub quarticSub o s

/-- `BBE4MUL a,b,c,d,e` (R453). -/
def execBbe4mul (o : Operands) (s : State) : Host.Outcome State Fault Refusal :=
  execExt .bbe4mul quarticMul o s

/-- `BBE4DIV a,b,c,d,e` (R454). -/
def execBbe4div (o : Operands) (s : State) : Host.Outcome State Fault Refusal :=
  execExt .bbe4div quarticDiv o s

/-! ### Poseidon2 -/

/-- The sixteen elements of the permutation's image (R460; log 15). -/
def poseidonPerm (p : Nat) (l : List Nat) : List Nat := (List.finRange 16).map (fun j => Config.poseidon2Perm0 l j % p)

/-- `COMPRESS_POSEIDON2[8, 0] a,b,c,d,e`: the first eight elements of the permutation of the two inputs (R461, D27). -/
def execCompressPoseidon2 (o : Operands) (s : State) : Host.Outcome State Fault Refusal := outcome do
  s.requireOp .compressPoseidon2
  s.nativeSpaces o.d o.e
  noFG o
  let pa ← s.cellRead o.d o.a
  let pb ← s.cellRead o.d o.b
  let pc ← s.cellRead o.d o.c
  let l ← s.blockRead o.e pb 8
  let r ← s.blockRead o.e pc 8
  let s' ← s.blockWrite o.e pa ((poseidonPerm s.cfg.p (l ++ r)).take 8)
  s'.advance

/-- `PERM_POSEIDON2[16, 0] a,b,_,d,e`: the permutation of sixteen cells, read and written in two batches of eight (R462). -/
def execPermPoseidon2 (o : Operands) (s : State) : Host.Outcome State Fault Refusal := outcome do
  s.requireOp .permPoseidon2
  require (o.c = 0) .badOperand
  s.nativeSpaces o.d o.e
  noFG o
  let pa ← s.cellRead o.d o.a
  let pb ← s.cellRead o.d o.b
  let l ← s.blockRead o.e pb 8
  let r ← s.blockRead o.e (pb + 8) 8
  let out := poseidonPerm s.cfg.p (l ++ r)
  let s1 ← s.blockWrite o.e pa (out.take 8)
  let s2 ← s1.blockWrite o.e (pa + 8) (out.drop 8)
  s2.advance

end Sys2Proof.Machine
end

