-- ==== Sys2Proof/Machine/System.lean ====
section
/-!
DEFINITION. The system instructions: `TERMINATE`, `PHANTOM` and its nine sub-instructions (`40_system.md`).
-/

namespace Sys2Proof.Machine

/-- `TERMINATE _, _, c`: the run ends with exit code `c` and `pc` stays (R180). -/
def execTerminate (o : Operands) (s : State) : Host.Outcome State Fault Refusal := outcome do
  s.requireOp .terminate
  require (o.a = 0 ∧ o.b = 0 ∧ o.d = 0 ∧ o.e = 0 ∧ o.f = 0 ∧ o.g = 0) .badOperand
  return { s with status := .terminated o.c }

/-! ### The effect of each sub-instruction, from `a`, `b` and `c_upper` -/

/-- A sub-instruction whose operand list is `_`: the three operands are 0 (R190). -/
def noPhantomOperands (a b cUpper : Nat) : Except Fault Unit := require (a = 0 ∧ b = 0 ∧ cUpper = 0) .badOperand

/-- `NOP`: "Does nothing." (R185) -/
def phantomNopEffect (s : State) (a b cUpper : Nat) : Except Fault State := do
  noPhantomOperands a b cUpper
  return s

/-- `DEBUG_PANIC`: the run does not continue (R186). -/
def phantomDebugPanicEffect (_s : State) (a b cUpper : Nat) : Except Fault State := do
  noPhantomOperands a b cUpper
  .error .debugPanic

/-- `PRINT_F`: prints `[a]_{c_upper}` on the host machine (R187); the operand `b` is unused. -/
def phantomPrintFEffect (s : State) (a b cUpper : Nat) : Except Fault State := do
  require (b = 0) .badOperand
  let v ← s.cellRead cUpper a
  return s.log (.printed v)

/-- `HINT_INPUT`: the next input vector, its length first, becomes the hint stream (R192). -/
def phantomHintInputEffect (s : State) (a b cUpper : Nat) : Except Fault State := do
  noPhantomOperands a b cUpper
  match s.inputStream with
  | [] => .error .inputStreamEmpty
  | hint :: rest => return { s with inputStream := rest, hintStream := (hint.length % s.cfg.p) :: hint }

/-- The `n` least significant bits of `v`, bit 0 first (R193, D16). -/
def lowBits (v n : Nat) : List Nat := (List.range n).map (fun i => v / 2 ^ i % 2)

/-- `HINT_BITS`: the `b` least significant bits of `[a]_{c_upper}` become the hint stream (R193). -/
def phantomHintBitsEffect (s : State) (a b cUpper : Nat) : Except Fault State := do
  require (b ≤ 32) .badOperand
  let v ← s.cellRead cUpper a
  return { s with hintStream := lowBits v b }

/-- `CT_START`: "Opens a new span for tracing." (R194) -/
def phantomCtStartEffect (s : State) (a b cUpper : Nat) : Except Fault State := do
  noPhantomOperands a b cUpper
  return s.log .spanOpened

/-- `CT_END`: "Closes the current span." (R195) -/
def phantomCtEndEffect (s : State) (a b cUpper : Nat) : Except Fault State := do
  noPhantomOperands a b cUpper
  return s.log .spanClosed

/-- A sub-instruction whose operands and description are "todo" (R196, R197). -/
def phantomTodoEffect (_s : State) (_a _b _cUpper : Nat) : Except Fault State := .error .unmodelledPhantom

/-- A discriminant that is not assigned (R198). -/
def phantomUnknownEffect (_s : State) (_a _b _cUpper : Nat) : Except Fault State := .error .unknownPhantom

/-- The sub-instruction of a discriminant (R190). -/
def phantomEffect (disc : Nat) : State → Nat → Nat → Nat → Except Fault State :=
  match disc with
  | 0 => phantomNopEffect
  | 1 => phantomDebugPanicEffect
  | 2 => phantomPrintFEffect
  | 3 => phantomHintInputEffect
  | 4 => phantomHintBitsEffect
  | 5 => phantomCtStartEffect
  | 6 => phantomCtEndEffect
  | 7 => phantomTodoEffect
  | 8 => phantomTodoEffect
  | _ => phantomUnknownEffect

/-- The skeleton of `PHANTOM`: `d` to `g` are 0, the sub-instruction runs, `pc` takes the default step (R190). -/
def runPhantom (effect : State → Nat → Nat → Nat → Except Fault State) (q : PhantomOperands) (s : State) :
    Host.Outcome State Fault Refusal := outcome do
  s.requireOp .phantom
  require (q.d = 0 ∧ q.e = 0 ∧ q.f = 0 ∧ q.g = 0) .badOperand
  let s' ← effect s q.a q.b q.cUpper
  s'.advance

/-- `PHANTOM a, b, c`: the low 16 bits of `c` select the sub-instruction (R190). -/
def execPhantom (o : Operands) (s : State) : Host.Outcome State Fault Refusal :=
  runPhantom (phantomEffect (o.c % 65536)) ⟨o.a, o.b, o.c / 65536, o.d, o.e, o.f, o.g⟩ s

/-- `NOP` (R185). -/
def execPhantomNop (q : PhantomOperands) (s : State) : Host.Outcome State Fault Refusal := runPhantom phantomNopEffect q s

/-- `DEBUG_PANIC` (R186). -/
def execPhantomDebugPanic (q : PhantomOperands) (s : State) : Host.Outcome State Fault Refusal :=
  runPhantom phantomDebugPanicEffect q s

/-- `PRINT_F` (R187). -/
def execPhantomPrintF (q : PhantomOperands) (s : State) : Host.Outcome State Fault Refusal := runPhantom phantomPrintFEffect q s

/-- `HINT_INPUT` (R192). -/
def execPhantomHintInput (q : PhantomOperands) (s : State) : Host.Outcome State Fault Refusal :=
  runPhantom phantomHintInputEffect q s

/-- `HINT_BITS` (R193). -/
def execPhantomHintBits (q : PhantomOperands) (s : State) : Host.Outcome State Fault Refusal :=
  runPhantom phantomHintBitsEffect q s

/-- `CT_START` (R194). -/
def execPhantomCtStart (q : PhantomOperands) (s : State) : Host.Outcome State Fault Refusal := runPhantom phantomCtStartEffect q s

/-- `CT_END` (R195). -/
def execPhantomCtEnd (q : PhantomOperands) (s : State) : Host.Outcome State Fault Refusal := runPhantom phantomCtEndEffect q s

/-- `HINT_FINAL_EXP_BN254`, "todo" in the source (R196). -/
def execPhantomHintFinalExpBn254 (q : PhantomOperands) (s : State) : Host.Outcome State Fault Refusal :=
  runPhantom phantomTodoEffect q s

/-- `HINT_FINAL_EXP_BLS12_381`, "todo" in the source (R197). -/
def execPhantomHintFinalExpBls12381 (q : PhantomOperands) (s : State) : Host.Outcome State Fault Refusal :=
  runPhantom phantomTodoEffect q s

end Sys2Proof.Machine
end

