-- ==== Sys2Proof/WellFormed.lean ====
section
/-!
DEFINITION. Which instructions are well formed: the operand lists the spec fixes (R124), the forms of the immediates (R126), and
which constructor a tuple denotes (R130, R190). The machine does not call these checks: it raises `BadOperand` and
`BadAddressSpace` by the pseudocode of each rule (R125), and a statement relates the two.
-/

namespace Sys2Proof

/-- A supported address space that has cells (R83, R84). -/
def Config.spaceSupported (cfg : Config) (s : Nat) : Bool :=
  s != 0 && decide (cfg.asOffset ≤ s) && decide (s < cfg.asOffset + 2 ^ cfg.addrSpaceMaxBits)

/-- Every operand is a field element (R13). -/
def Operands.areFelts (p : Nat) (o : Operands) : Bool :=
  decide (o.a < p) && decide (o.b < p) && decide (o.c < p) && decide (o.d < p) && decide (o.e < p) && decide (o.f < p) &&
    decide (o.g < p)

/-- Every operand, with `c` put together from `c_upper` and the discriminant, is a field element (R13, R190). -/
def PhantomOperands.areFelts (p disc : Nat) (q : PhantomOperands) : Bool :=
  decide (q.a < p) && decide (q.b < p) && decide (q.cUpper * 65536 + disc < p) && decide (q.d < p) && decide (q.e < p) &&
    decide (q.f < p) && decide (q.g < p)

/-- The 24-bit sign-extended form of an ALU immediate (R126, R221). -/
def immediate24 (u : Nat) : Bool :=
  decide (u < 2 ^ 24) && (u / 2 ^ 16 % 256 == if u / 2 ^ 15 % 2 = 1 then 255 else 0)

/-- The range of a branch or `JAL_RV32` offset, `-2^24 <= centred(c) < 2^24` (R126, R281). -/
def offset25 (p : Nat) (c : Nat) : Bool :=
  decide (2 * c < p ∧ c < 2 ^ 24) || decide (p ≤ 2 * c ∧ p ≤ c + 2 ^ 24)

/-- The range of a native offset: that of the branches, or none, as the configuration says (R126, R423, D30; log 21). -/
def Config.nativeOffset (cfg : Config) (c : Nat) : Bool :=
  match cfg.nativeOffsets with
  | .any => true
  | .ranged => offset25 cfg.p c

/-- `d = 1`, `e` as given, `f = g = 0`, the list of most `_RV32` instructions (R124). -/
def Operands.rv32List (o : Operands) (e : Nat) : Bool := o.d == 1 && o.e == e && o.f == 0 && o.g == 0

/-- The list of the RV32 ALU instructions (R124, R126). -/
def Operands.aluList (o : Operands) : Bool :=
  o.d == 1 && (o.e == 1 || o.e == 0 && immediate24 o.c) && o.f == 0 && o.g == 0

/-- The list of the RV32 loads and stores (R124, R126). -/
def Operands.loadStoreList (cfg : Config) (o : Operands) : Bool :=
  o.d == 1 && cfg.spaceSupported o.e && o.f == 0 && o.g == 0 && decide (o.c < 2 ^ 16)

/-- `d`, `e` supported spaces, `f = g = 0`, the list of most native instructions (R124, R420). -/
def Operands.nativeList (cfg : Config) (o : Operands) : Bool :=
  cfg.spaceSupported o.d && cfg.spaceSupported o.e && o.f == 0 && o.g == 0

/-- `d` a supported space, `e` a supported space or 0, `f = g = 0`, the list of the native field instructions (R124, R440). -/
def Operands.fieldList (cfg : Config) (o : Operands) : Bool :=
  cfg.spaceSupported o.d && (o.e == 0 || cfg.spaceSupported o.e) && o.f == 0 && o.g == 0

/-- `d = e = f = g = 0` of the phantom instructions (R124, R190). -/
def PhantomOperands.tailZero (q : PhantomOperands) : Bool := q.d == 0 && q.e == 0 && q.f == 0 && q.g == 0

/-- A phantom sub-instruction whose operand list is `_`: all its operands are 0 (R190). -/
def PhantomOperands.allZero (q : PhantomOperands) : Bool := q.a == 0 && q.b == 0 && q.cUpper == 0 && q.tailZero

/-- The operand list and the immediate forms the spec fixes for each instruction (R124, R126, R190). A RISC-V constructor holds
bit fields of its word, of which every value is an encoding (R141 to R153). -/
def Instr.operandsLegal (cfg : Config) : Instr → Bool
  | .terminate o => o.a == 0 && o.b == 0 && o.d == 0 && o.e == 0 && o.f == 0 && o.g == 0
  | .phantom o => o.d == 0 && o.e == 0 && o.f == 0 && o.g == 0
  | .phantomNop q => q.allZero
  | .phantomDebugPanic q => q.allZero
  | .phantomPrintF q => q.b == 0 && q.tailZero && cfg.spaceSupported q.cUpper
  | .phantomHintInput q => q.allZero
  | .phantomHintBits q => decide (q.b ≤ 32) && q.tailZero && cfg.spaceSupported q.cUpper
  | .phantomCtStart q => q.allZero
  | .phantomCtEnd q => q.allZero
  | .phantomHintFinalExpBn254 q => q.tailZero
  | .phantomHintFinalExpBls12381 q => q.tailZero
  | .addRv32 o => o.aluList
  | .subRv32 o => o.aluList
  | .xorRv32 o => o.aluList
  | .orRv32 o => o.aluList
  | .andRv32 o => o.aluList
  | .sllRv32 o => o.aluList
  | .srlRv32 o => o.aluList
  | .sraRv32 o => o.aluList
  | .sltRv32 o => o.aluList
  | .sltuRv32 o => o.aluList
  | .loadbRv32 o => o.loadStoreList cfg
  | .loadhRv32 o => o.loadStoreList cfg
  | .loadwRv32 o => o.loadStoreList cfg
  | .loadbuRv32 o => o.loadStoreList cfg
  | .loadhuRv32 o => o.loadStoreList cfg
  | .storebRv32 o => o.loadStoreList cfg
  | .storehRv32 o => o.loadStoreList cfg
  | .storewRv32 o => o.loadStoreList cfg
  | .beqRv32 o => o.rv32List 1 && offset25 cfg.p o.c
  | .bneRv32 o => o.rv32List 1 && offset25 cfg.p o.c
  | .bltRv32 o => o.rv32List 1 && offset25 cfg.p o.c
  | .bgeRv32 o => o.rv32List 1 && offset25 cfg.p o.c
  | .bltuRv32 o => o.rv32List 1 && offset25 cfg.p o.c
  | .bgeuRv32 o => o.rv32List 1 && offset25 cfg.p o.c
  | .jalRv32 o => o.b == 0 && o.d == 1 && o.e == 0 && (o.f == 0 || o.f == 1) && o.g == 0 && offset25 cfg.p o.c
  | .jalrRv32 o => o.d == 1 && o.e == 0 && (o.f == 0 || o.f == 1) && o.g == 0 && decide (o.c < 2 ^ 16)
  | .luiRv32 o => o.b == 0 && o.d == 1 && o.e == 0 && o.f == 1 && o.g == 0 && decide (o.c < 2 ^ 20)
  | .auipcRv32 o => o.b == 0 && o.rv32List 0 && decide (o.c < 2 ^ 20)
  | .mulRv32 o => o.rv32List 0
  | .mulhRv32 o => o.rv32List 0
  | .mulhsuRv32 o => o.rv32List 0
  | .mulhuRv32 o => o.rv32List 0
  | .divRv32 o => o.rv32List 0
  | .divuRv32 o => o.rv32List 0
  | .remRv32 o => o.rv32List 0
  | .remuRv32 o => o.rv32List 0
  | .hintstorewRv32 o => o.a == 0 && o.rv32List 2 && decide (o.c < 2 ^ 16)
  | .revealRv32 o => o.rv32List 3 && decide (o.c < 2 ^ 16)
  | .keccak256Rv32 o => o.d == 1 && cfg.spaceSupported o.e && o.f == 0 && o.g == 0
  | .add256Rv32 o => o.rv32List 2
  | .sub256Rv32 o => o.rv32List 2
  | .xor256Rv32 o => o.rv32List 2
  | .or256Rv32 o => o.rv32List 2
  | .and256Rv32 o => o.rv32List 2
  | .sll256Rv32 o => o.rv32List 2
  | .srl256Rv32 o => o.rv32List 2
  | .sra256Rv32 o => o.rv32List 2
  | .slt256Rv32 o => o.rv32List 2
  | .sltu256Rv32 o => o.rv32List 2
  | .beq256Rv32 o => o.rv32List 2 && offset25 cfg.p o.c
  | .bne256Rv32 o => o.rv32List 2 && offset25 cfg.p o.c
  | .blt256Rv32 o => o.rv32List 2 && offset25 cfg.p o.c
  | .bge256Rv32 o => o.rv32List 2 && offset25 cfg.p o.c
  | .bltu256Rv32 o => o.rv32List 2 && offset25 cfg.p o.c
  | .bgeu256Rv32 o => o.rv32List 2 && offset25 cfg.p o.c
  | .mul256Rv32 o => o.rv32List 2
  | .addmodRv32 i o => o.rv32List 2 && decide (i < cfg.moduli.length)
  | .submodRv32 i o => o.rv32List 2 && decide (i < cfg.moduli.length)
  | .mulmodRv32 i o => o.rv32List 2 && decide (i < cfg.moduli.length)
  | .divmodRv32 i o => o.rv32List 2 && decide (i < cfg.moduli.length)
  | .iseqmodRv32 i o => o.rv32List 2 && decide (i < cfg.moduli.length)
  | .swAddNe i o => o.rv32List 2 && decide (i < cfg.curves.length)
  | .swDouble i o => o.c == 0 && o.rv32List 2 && decide (i < cfg.curves.length)
  | .load w o => o.nativeList cfg && cfg.widths.contains w
  | .store w o => o.nativeList cfg && cfg.widths.contains w
  | .load2 o => cfg.spaceSupported o.d && cfg.spaceSupported o.e
  | .store2 o => cfg.spaceSupported o.d && cfg.spaceSupported o.e
  | .shintw o => o.a == 0 && o.nativeList cfg
  | .jal o => o.c == 0 && cfg.spaceSupported o.d && o.e == 0 && o.f == 0 && o.g == 0 && cfg.nativeOffset o.b
  | .beq w o => o.nativeList cfg && cfg.widths.contains w && cfg.nativeOffset o.c
  | .bne w o => o.nativeList cfg && cfg.widths.contains w && cfg.nativeOffset o.c
  | .publish o => o.c == 0 && o.nativeList cfg
  | .castf o => o.c == 0 && o.nativeList cfg
  | .addf o => o.fieldList cfg
  | .subf o => o.fieldList cfg
  | .mulf o => o.fieldList cfg
  | .divf o => o.fieldList cfg
  | .fe4add o => o.nativeList cfg && cfg.p == babyBear
  | .fe4sub o => o.nativeList cfg && cfg.p == babyBear
  | .bbe4mul o => o.nativeList cfg && cfg.p == babyBear
  | .bbe4div o => o.nativeList cfg && cfg.p == babyBear
  | .compressPoseidon2 o => o.nativeList cfg
  | .permPoseidon2 o => o.c == 0 && o.nativeList cfg
  | .rvAdd _ _ _ => true
  | .rvSub _ _ _ => true
  | .rvXor _ _ _ => true
  | .rvOr _ _ _ => true
  | .rvAnd _ _ _ => true
  | .rvSll _ _ _ => true
  | .rvSrl _ _ _ => true
  | .rvSra _ _ _ => true
  | .rvSlt _ _ _ => true
  | .rvSltu _ _ _ => true
  | .rvAddi _ _ _ => true
  | .rvXori _ _ _ => true
  | .rvOri _ _ _ => true
  | .rvAndi _ _ _ => true
  | .rvSlli _ _ _ => true
  | .rvSrli _ _ _ => true
  | .rvSrai _ _ _ => true
  | .rvSlti _ _ _ => true
  | .rvSltiu _ _ _ => true
  | .rvLb _ _ _ => true
  | .rvLh _ _ _ => true
  | .rvLw _ _ _ => true
  | .rvLbu _ _ _ => true
  | .rvLhu _ _ _ => true
  | .rvSb _ _ _ => true
  | .rvSh _ _ _ => true
  | .rvSw _ _ _ => true
  | .rvBeq _ _ _ => true
  | .rvBne _ _ _ => true
  | .rvBlt _ _ _ => true
  | .rvBge _ _ _ => true
  | .rvBltu _ _ _ => true
  | .rvBgeu _ _ _ => true
  | .rvJal _ _ => true
  | .rvJalr _ _ _ => true
  | .rvLui _ _ => true
  | .rvAuipc _ _ => true
  | .rvMul _ _ _ => true
  | .rvMulh _ _ _ => true
  | .rvMulhsu _ _ _ => true
  | .rvMulhu _ _ _ => true
  | .rvDiv _ _ _ => true
  | .rvDivu _ _ _ => true
  | .rvRem _ _ _ => true
  | .rvRemu _ _ _ => true
  | .rvTerminate _ => true
  | .rvHintstorew _ _ => true
  | .rvReveal _ _ _ => true
  | .rvHintinput => true
  | .rvKeccak256 _ _ _ => true
  | .rvAdd256 _ _ _ => true
  | .rvSub256 _ _ _ => true
  | .rvXor256 _ _ _ => true
  | .rvOr256 _ _ _ => true
  | .rvAnd256 _ _ _ => true
  | .rvSll256 _ _ _ => true
  | .rvSrl256 _ _ _ => true
  | .rvSra256 _ _ _ => true
  | .rvSlt256 _ _ _ => true
  | .rvSltu256 _ _ _ => true
  | .rvBeq256 _ _ _ => true
  | .rvBne256 _ _ _ => true
  | .rvBlt256 _ _ _ => true
  | .rvBge256 _ _ _ => true
  | .rvBltu256 _ _ _ => true
  | .rvBgeu256 _ _ _ => true
  | .rvMul256 _ _ _ => true
  | .rvAddmod _ _ _ _ => true
  | .rvSubmod _ _ _ _ => true
  | .rvMulmod _ _ _ _ => true
  | .rvDivmod _ _ _ _ => true
  | .rvIseqmod _ _ _ _ => true
  | .rvSwAddNe _ _ _ _ => true
  | .rvSwDouble _ _ _ => true

/-- The instruction is a term that a ROM entry denotes: its operands are field elements (R120), and where one opcode has several
constructors (`STOREW_RV32` and `REVEAL_RV32`, R130; `PHANTOM` and its sub-instructions, R190) it is the one that the decoder
answers (log 20). -/
def Instr.encodable (cfg : Config) : Instr → Bool
  | .terminate o => o.areFelts cfg.p
  | .phantom o => o.areFelts cfg.p && decide (9 ≤ o.c % 65536)
  | .phantomNop q => q.areFelts cfg.p 0
  | .phantomDebugPanic q => q.areFelts cfg.p 1
  | .phantomPrintF q => q.areFelts cfg.p 2
  | .phantomHintInput q => q.areFelts cfg.p 3
  | .phantomHintBits q => q.areFelts cfg.p 4
  | .phantomCtStart q => q.areFelts cfg.p 5
  | .phantomCtEnd q => q.areFelts cfg.p 6
  | .phantomHintFinalExpBn254 q => q.areFelts cfg.p 7
  | .phantomHintFinalExpBls12381 q => q.areFelts cfg.p 8
  | .addRv32 o => o.areFelts cfg.p
  | .subRv32 o => o.areFelts cfg.p
  | .xorRv32 o => o.areFelts cfg.p
  | .orRv32 o => o.areFelts cfg.p
  | .andRv32 o => o.areFelts cfg.p
  | .sllRv32 o => o.areFelts cfg.p
  | .srlRv32 o => o.areFelts cfg.p
  | .sraRv32 o => o.areFelts cfg.p
  | .sltRv32 o => o.areFelts cfg.p
  | .sltuRv32 o => o.areFelts cfg.p
  | .loadbRv32 o => o.areFelts cfg.p
  | .loadhRv32 o => o.areFelts cfg.p
  | .loadwRv32 o => o.areFelts cfg.p
  | .loadbuRv32 o => o.areFelts cfg.p
  | .loadhuRv32 o => o.areFelts cfg.p
  | .storebRv32 o => o.areFelts cfg.p
  | .storehRv32 o => o.areFelts cfg.p
  | .storewRv32 o => o.areFelts cfg.p && o.e != 3
  | .beqRv32 o => o.areFelts cfg.p
  | .bneRv32 o => o.areFelts cfg.p
  | .bltRv32 o => o.areFelts cfg.p
  | .bgeRv32 o => o.areFelts cfg.p
  | .bltuRv32 o => o.areFelts cfg.p
  | .bgeuRv32 o => o.areFelts cfg.p
  | .jalRv32 o => o.areFelts cfg.p
  | .jalrRv32 o => o.areFelts cfg.p
  | .luiRv32 o => o.areFelts cfg.p
  | .auipcRv32 o => o.areFelts cfg.p
  | .mulRv32 o => o.areFelts cfg.p
  | .mulhRv32 o => o.areFelts cfg.p
  | .mulhsuRv32 o => o.areFelts cfg.p
  | .mulhuRv32 o => o.areFelts cfg.p
  | .divRv32 o => o.areFelts cfg.p
  | .divuRv32 o => o.areFelts cfg.p
  | .remRv32 o => o.areFelts cfg.p
  | .remuRv32 o => o.areFelts cfg.p
  | .hintstorewRv32 o => o.areFelts cfg.p
  | .revealRv32 o => o.areFelts cfg.p && o.e == 3
  | .keccak256Rv32 o => o.areFelts cfg.p
  | .add256Rv32 o => o.areFelts cfg.p
  | .sub256Rv32 o => o.areFelts cfg.p
  | .xor256Rv32 o => o.areFelts cfg.p
  | .or256Rv32 o => o.areFelts cfg.p
  | .and256Rv32 o => o.areFelts cfg.p
  | .sll256Rv32 o => o.areFelts cfg.p
  | .srl256Rv32 o => o.areFelts cfg.p
  | .sra256Rv32 o => o.areFelts cfg.p
  | .slt256Rv32 o => o.areFelts cfg.p
  | .sltu256Rv32 o => o.areFelts cfg.p
  | .beq256Rv32 o => o.areFelts cfg.p
  | .bne256Rv32 o => o.areFelts cfg.p
  | .blt256Rv32 o => o.areFelts cfg.p
  | .bge256Rv32 o => o.areFelts cfg.p
  | .bltu256Rv32 o => o.areFelts cfg.p
  | .bgeu256Rv32 o => o.areFelts cfg.p
  | .mul256Rv32 o => o.areFelts cfg.p
  | .addmodRv32 _ o => o.areFelts cfg.p
  | .submodRv32 _ o => o.areFelts cfg.p
  | .mulmodRv32 _ o => o.areFelts cfg.p
  | .divmodRv32 _ o => o.areFelts cfg.p
  | .iseqmodRv32 _ o => o.areFelts cfg.p
  | .swAddNe _ o => o.areFelts cfg.p
  | .swDouble _ o => o.areFelts cfg.p
  | .load _ o => o.areFelts cfg.p
  | .store _ o => o.areFelts cfg.p
  | .load2 o => o.areFelts cfg.p
  | .store2 o => o.areFelts cfg.p
  | .shintw o => o.areFelts cfg.p
  | .jal o => o.areFelts cfg.p
  | .beq _ o => o.areFelts cfg.p
  | .bne _ o => o.areFelts cfg.p
  | .publish o => o.areFelts cfg.p
  | .castf o => o.areFelts cfg.p
  | .addf o => o.areFelts cfg.p
  | .subf o => o.areFelts cfg.p
  | .mulf o => o.areFelts cfg.p
  | .divf o => o.areFelts cfg.p
  | .fe4add o => o.areFelts cfg.p
  | .fe4sub o => o.areFelts cfg.p
  | .bbe4mul o => o.areFelts cfg.p
  | .bbe4div o => o.areFelts cfg.p
  | .compressPoseidon2 o => o.areFelts cfg.p
  | .permPoseidon2 o => o.areFelts cfg.p
  | .rvAdd _ _ _ => true
  | .rvSub _ _ _ => true
  | .rvXor _ _ _ => true
  | .rvOr _ _ _ => true
  | .rvAnd _ _ _ => true
  | .rvSll _ _ _ => true
  | .rvSrl _ _ _ => true
  | .rvSra _ _ _ => true
  | .rvSlt _ _ _ => true
  | .rvSltu _ _ _ => true
  | .rvAddi _ _ _ => true
  | .rvXori _ _ _ => true
  | .rvOri _ _ _ => true
  | .rvAndi _ _ _ => true
  | .rvSlli _ _ _ => true
  | .rvSrli _ _ _ => true
  | .rvSrai _ _ _ => true
  | .rvSlti _ _ _ => true
  | .rvSltiu _ _ _ => true
  | .rvLb _ _ _ => true
  | .rvLh _ _ _ => true
  | .rvLw _ _ _ => true
  | .rvLbu _ _ _ => true
  | .rvLhu _ _ _ => true
  | .rvSb _ _ _ => true
  | .rvSh _ _ _ => true
  | .rvSw _ _ _ => true
  | .rvBeq _ _ _ => true
  | .rvBne _ _ _ => true
  | .rvBlt _ _ _ => true
  | .rvBge _ _ _ => true
  | .rvBltu _ _ _ => true
  | .rvBgeu _ _ _ => true
  | .rvJal _ _ => true
  | .rvJalr _ _ _ => true
  | .rvLui _ _ => true
  | .rvAuipc _ _ => true
  | .rvMul _ _ _ => true
  | .rvMulh _ _ _ => true
  | .rvMulhsu _ _ _ => true
  | .rvMulhu _ _ _ => true
  | .rvDiv _ _ _ => true
  | .rvDivu _ _ _ => true
  | .rvRem _ _ _ => true
  | .rvRemu _ _ _ => true
  | .rvTerminate _ => true
  | .rvHintstorew _ _ => true
  | .rvReveal _ _ _ => true
  | .rvHintinput => true
  | .rvKeccak256 _ _ _ => true
  | .rvAdd256 _ _ _ => true
  | .rvSub256 _ _ _ => true
  | .rvXor256 _ _ _ => true
  | .rvOr256 _ _ _ => true
  | .rvAnd256 _ _ _ => true
  | .rvSll256 _ _ _ => true
  | .rvSrl256 _ _ _ => true
  | .rvSra256 _ _ _ => true
  | .rvSlt256 _ _ _ => true
  | .rvSltu256 _ _ _ => true
  | .rvBeq256 _ _ _ => true
  | .rvBne256 _ _ _ => true
  | .rvBlt256 _ _ _ => true
  | .rvBge256 _ _ _ => true
  | .rvBltu256 _ _ _ => true
  | .rvBgeu256 _ _ _ => true
  | .rvMul256 _ _ _ => true
  | .rvAddmod _ _ _ _ => true
  | .rvSubmod _ _ _ _ => true
  | .rvMulmod _ _ _ _ => true
  | .rvDivmod _ _ _ _ => true
  | .rvIseqmod _ _ _ _ => true
  | .rvSwAddNe _ _ _ _ => true
  | .rvSwDouble _ _ _ => true

/-- The opcode-owning mnemonic of an axVM instruction (R122, R130, R190), none for a RISC-V word. -/
def Instr.op : Instr → Option Op
  | .terminate _ => some .terminate
  | .phantom _ => some .phantom
  | .phantomNop _ => some .phantom
  | .phantomDebugPanic _ => some .phantom
  | .phantomPrintF _ => some .phantom
  | .phantomHintInput _ => some .phantom
  | .phantomHintBits _ => some .phantom
  | .phantomCtStart _ => some .phantom
  | .phantomCtEnd _ => some .phantom
  | .phantomHintFinalExpBn254 _ => some .phantom
  | .phantomHintFinalExpBls12381 _ => some .phantom
  | .addRv32 _ => some .addRv32
  | .subRv32 _ => some .subRv32
  | .xorRv32 _ => some .xorRv32
  | .orRv32 _ => some .orRv32
  | .andRv32 _ => some .andRv32
  | .sllRv32 _ => some .sllRv32
  | .srlRv32 _ => some .srlRv32
  | .sraRv32 _ => some .sraRv32
  | .sltRv32 _ => some .sltRv32
  | .sltuRv32 _ => some .sltuRv32
  | .loadbRv32 _ => some .loadbRv32
  | .loadhRv32 _ => some .loadhRv32
  | .loadwRv32 _ => some .loadwRv32
  | .loadbuRv32 _ => some .loadbuRv32
  | .loadhuRv32 _ => some .loadhuRv32
  | .storebRv32 _ => some .storebRv32
  | .storehRv32 _ => some .storehRv32
  | .storewRv32 _ => some .storewRv32
  | .beqRv32 _ => some .beqRv32
  | .bneRv32 _ => some .bneRv32
  | .bltRv32 _ => some .bltRv32
  | .bgeRv32 _ => some .bgeRv32
  | .bltuRv32 _ => some .bltuRv32
  | .bgeuRv32 _ => some .bgeuRv32
  | .jalRv32 _ => some .jalRv32
  | .jalrRv32 _ => some .jalrRv32
  | .luiRv32 _ => some .luiRv32
  | .auipcRv32 _ => some .auipcRv32
  | .mulRv32 _ => some .mulRv32
  | .mulhRv32 _ => some .mulhRv32
  | .mulhsuRv32 _ => some .mulhsuRv32
  | .mulhuRv32 _ => some .mulhuRv32
  | .divRv32 _ => some .divRv32
  | .divuRv32 _ => some .divuRv32
  | .remRv32 _ => some .remRv32
  | .remuRv32 _ => some .remuRv32
  | .hintstorewRv32 _ => some .hintstorewRv32
  | .revealRv32 _ => some .storewRv32
  | .keccak256Rv32 _ => some .keccak256Rv32
  | .add256Rv32 _ => some .add256Rv32
  | .sub256Rv32 _ => some .sub256Rv32
  | .xor256Rv32 _ => some .xor256Rv32
  | .or256Rv32 _ => some .or256Rv32
  | .and256Rv32 _ => some .and256Rv32
  | .sll256Rv32 _ => some .sll256Rv32
  | .srl256Rv32 _ => some .srl256Rv32
  | .sra256Rv32 _ => some .sra256Rv32
  | .slt256Rv32 _ => some .slt256Rv32
  | .sltu256Rv32 _ => some .sltu256Rv32
  | .beq256Rv32 _ => some .beq256Rv32
  | .bne256Rv32 _ => some .bne256Rv32
  | .blt256Rv32 _ => some .blt256Rv32
  | .bge256Rv32 _ => some .bge256Rv32
  | .bltu256Rv32 _ => some .bltu256Rv32
  | .bgeu256Rv32 _ => some .bgeu256Rv32
  | .mul256Rv32 _ => some .mul256Rv32
  | .addmodRv32 i _ => some (.addmodRv32 i)
  | .submodRv32 i _ => some (.submodRv32 i)
  | .mulmodRv32 i _ => some (.mulmodRv32 i)
  | .divmodRv32 i _ => some (.divmodRv32 i)
  | .iseqmodRv32 i _ => some (.iseqmodRv32 i)
  | .swAddNe i _ => some (.swAddNe i)
  | .swDouble i _ => some (.swDouble i)
  | .load w _ => some (.load w)
  | .store w _ => some (.store w)
  | .load2 _ => some .load2
  | .store2 _ => some .store2
  | .shintw _ => some .shintw
  | .jal _ => some .jal
  | .beq w _ => some (.beq w)
  | .bne w _ => some (.bne w)
  | .publish _ => some .publish
  | .castf _ => some .castf
  | .addf _ => some .addf
  | .subf _ => some .subf
  | .mulf _ => some .mulf
  | .divf _ => some .divf
  | .fe4add _ => some .fe4add
  | .fe4sub _ => some .fe4sub
  | .bbe4mul _ => some .bbe4mul
  | .bbe4div _ => some .bbe4div
  | .compressPoseidon2 _ => some .compressPoseidon2
  | .permPoseidon2 _ => some .permPoseidon2
  | .rvAdd _ _ _ => none
  | .rvSub _ _ _ => none
  | .rvXor _ _ _ => none
  | .rvOr _ _ _ => none
  | .rvAnd _ _ _ => none
  | .rvSll _ _ _ => none
  | .rvSrl _ _ _ => none
  | .rvSra _ _ _ => none
  | .rvSlt _ _ _ => none
  | .rvSltu _ _ _ => none
  | .rvAddi _ _ _ => none
  | .rvXori _ _ _ => none
  | .rvOri _ _ _ => none
  | .rvAndi _ _ _ => none
  | .rvSlli _ _ _ => none
  | .rvSrli _ _ _ => none
  | .rvSrai _ _ _ => none
  | .rvSlti _ _ _ => none
  | .rvSltiu _ _ _ => none
  | .rvLb _ _ _ => none
  | .rvLh _ _ _ => none
  | .rvLw _ _ _ => none
  | .rvLbu _ _ _ => none
  | .rvLhu _ _ _ => none
  | .rvSb _ _ _ => none
  | .rvSh _ _ _ => none
  | .rvSw _ _ _ => none
  | .rvBeq _ _ _ => none
  | .rvBne _ _ _ => none
  | .rvBlt _ _ _ => none
  | .rvBge _ _ _ => none
  | .rvBltu _ _ _ => none
  | .rvBgeu _ _ _ => none
  | .rvJal _ _ => none
  | .rvJalr _ _ _ => none
  | .rvLui _ _ => none
  | .rvAuipc _ _ => none
  | .rvMul _ _ _ => none
  | .rvMulh _ _ _ => none
  | .rvMulhsu _ _ _ => none
  | .rvMulhu _ _ _ => none
  | .rvDiv _ _ _ => none
  | .rvDivu _ _ _ => none
  | .rvRem _ _ _ => none
  | .rvRemu _ _ _ => none
  | .rvTerminate _ => none
  | .rvHintstorew _ _ => none
  | .rvReveal _ _ _ => none
  | .rvHintinput => none
  | .rvKeccak256 _ _ _ => none
  | .rvAdd256 _ _ _ => none
  | .rvSub256 _ _ _ => none
  | .rvXor256 _ _ _ => none
  | .rvOr256 _ _ _ => none
  | .rvAnd256 _ _ _ => none
  | .rvSll256 _ _ _ => none
  | .rvSrl256 _ _ _ => none
  | .rvSra256 _ _ _ => none
  | .rvSlt256 _ _ _ => none
  | .rvSltu256 _ _ _ => none
  | .rvBeq256 _ _ _ => none
  | .rvBne256 _ _ _ => none
  | .rvBlt256 _ _ _ => none
  | .rvBge256 _ _ _ => none
  | .rvBltu256 _ _ _ => none
  | .rvBgeu256 _ _ _ => none
  | .rvMul256 _ _ _ => none
  | .rvAddmod _ _ _ _ => none
  | .rvSubmod _ _ _ _ => none
  | .rvMulmod _ _ _ _ => none
  | .rvDivmod _ _ _ _ => none
  | .rvIseqmod _ _ _ _ => none
  | .rvSwAddNe _ _ _ _ => none
  | .rvSwDouble _ _ _ => none

/-- Well formed: an encodable term with legal operands whose mnemonic has an opcode in the configuration. -/
def Instr.wellFormed (cfg : Config) (i : Instr) : Bool :=
  i.encodable cfg && i.operandsLegal cfg &&
    match i.op with
    | none => true
    | some op => (cfg.opcodes.map (·.2)).contains op

end Sys2Proof
end

