-- ==== Sys2Proof/Decode.lean ====
section
/-!
DEFINITION. Decoding and encoding: RISC-V words (R141 to R153) and axVM tuples (R120, R122).

Both decoders are total; a word or an opcode that stands for no instruction is answered by `none` (R129, R149, R154). The
encodings of the 45 RV32IM words are from general knowledge (PRESUMED by R152, R153 and G2; log 24, unsafe).
-/

namespace Sys2Proof

/-! ### The fields of a RISC-V word (R141) -/

/-- `opcode = w[6:0]`. -/
def rvOpcode (w : Word) : BitVec 7 := w.extractLsb' 0 7
/-- `rd = w[11:7]`. -/
def rvRd (w : Word) : BitVec 5 := w.extractLsb' 7 5
/-- `funct3 = w[14:12]`. -/
def rvFunct3 (w : Word) : BitVec 3 := w.extractLsb' 12 3
/-- `rs1 = w[19:15]`. -/
def rvRs1 (w : Word) : BitVec 5 := w.extractLsb' 15 5
/-- `rs2 = w[24:20]`. -/
def rvRs2 (w : Word) : BitVec 5 := w.extractLsb' 20 5
/-- `funct7 = w[31:25]`. -/
def rvFunct7 (w : Word) : BitVec 7 := w.extractLsb' 25 7

/-- The word with the given fields, `[funct7] [rs2] [rs1] [funct3] [rd] [opcode]` (R141). -/
def packWord (f7 : BitVec 7) (rs2 rs1 : BitVec 5) (f3 : BitVec 3) (rd : BitVec 5) (opc : BitVec 7) : Word :=
  f7 ++ rs2 ++ rs1 ++ f3 ++ rd ++ opc

/-- I-type `imm[11:0] = w[31:20]` (R142). -/
def immI (w : Word) : BitVec 12 := rvFunct7 w ++ rvRs2 w
/-- S-type `imm12 = (w[31:25] << 5) | w[11:7]` (R153). -/
def immS (w : Word) : BitVec 12 := rvFunct7 w ++ rvRd w
/-- The twelve stored bits `imm[12:1]` of the B-type: bit 12 is `w[31]`, bit 11 `w[7]`, bits 10 to 5 `w[30:25]`, bits 4 to 1
`w[11:8]` (R153). -/
def immB (w : Word) : BitVec 12 :=
  (rvFunct7 w).extractLsb' 6 1 ++ (rvRd w).extractLsb' 0 1 ++ (rvFunct7 w).extractLsb' 0 6 ++ (rvRd w).extractLsb' 1 4
/-- U-type `imm20 = w[31:12]` (R153). -/
def immU (w : Word) : BitVec 20 := rvFunct7 w ++ rvRs2 w ++ rvRs1 w ++ rvFunct3 w
/-- The twenty stored bits `imm[20:1]` of the J-type: bit 20 is `w[31]`, bits 19 to 12 `w[19:12]`, bit 11 `w[20]`, bits 10 to 1
`w[30:21]` (R153). -/
def immJ (w : Word) : BitVec 20 :=
  (rvFunct7 w).extractLsb' 6 1 ++ rvRs1 w ++ rvFunct3 w ++ (rvRs2 w).extractLsb' 0 1 ++
    (rvFunct7 w).extractLsb' 0 6 ++ (rvRs2 w).extractLsb' 1 4

/-- An I-type word (R142). -/
def packI (imm : BitVec 12) (rs1 : BitVec 5) (f3 : BitVec 3) (rd : BitVec 5) (opc : BitVec 7) : Word :=
  packWord (imm.extractLsb' 5 7) (imm.extractLsb' 0 5) rs1 f3 rd opc
/-- An S-type word (R153). -/
def packS (imm : BitVec 12) (rs2 rs1 : BitVec 5) (f3 : BitVec 3) (opc : BitVec 7) : Word :=
  packWord (imm.extractLsb' 5 7) rs2 rs1 f3 (imm.extractLsb' 0 5) opc
/-- A B-type word from the stored bits `imm[12:1]` (R153). -/
def packB (imm : BitVec 12) (rs2 rs1 : BitVec 5) (f3 : BitVec 3) (opc : BitVec 7) : Word :=
  packWord (imm.extractLsb' 11 1 ++ imm.extractLsb' 4 6) rs2 rs1 f3 (imm.extractLsb' 0 4 ++ imm.extractLsb' 10 1) opc
/-- A U-type word (R153). -/
def packU (imm : BitVec 20) (rd : BitVec 5) (opc : BitVec 7) : Word :=
  packWord (imm.extractLsb' 13 7) (imm.extractLsb' 8 5) (imm.extractLsb' 3 5) (imm.extractLsb' 0 3) rd opc
/-- A J-type word from the stored bits `imm[20:1]` (R153). -/
def packJ (imm : BitVec 20) (rd : BitVec 5) (opc : BitVec 7) : Word :=
  packWord (imm.extractLsb' 19 1 ++ imm.extractLsb' 4 6) (imm.extractLsb' 0 4 ++ imm.extractLsb' 10 1)
    (imm.extractLsb' 14 5) (imm.extractLsb' 11 3) rd opc

/-! ### RISC-V words -/

/-- Opcode 0110011 (R152): `funct7` and `funct3` select the instruction. -/
def decodeOp (f7 f3 : Nat) (rd rs1 rs2 : BitVec 5) : Option Instr :=
  match f7, f3 with
  | 0, 0 => some (.rvAdd rd rs1 rs2)
  | 32, 0 => some (.rvSub rd rs1 rs2)
  | 0, 1 => some (.rvSll rd rs1 rs2)
  | 0, 2 => some (.rvSlt rd rs1 rs2)
  | 0, 3 => some (.rvSltu rd rs1 rs2)
  | 0, 4 => some (.rvXor rd rs1 rs2)
  | 0, 5 => some (.rvSrl rd rs1 rs2)
  | 32, 5 => some (.rvSra rd rs1 rs2)
  | 0, 6 => some (.rvOr rd rs1 rs2)
  | 0, 7 => some (.rvAnd rd rs1 rs2)
  | 1, 0 => some (.rvMul rd rs1 rs2)
  | 1, 1 => some (.rvMulh rd rs1 rs2)
  | 1, 2 => some (.rvMulhsu rd rs1 rs2)
  | 1, 3 => some (.rvMulhu rd rs1 rs2)
  | 1, 4 => some (.rvDiv rd rs1 rs2)
  | 1, 5 => some (.rvDivu rd rs1 rs2)
  | 1, 6 => some (.rvRem rd rs1 rs2)
  | 1, 7 => some (.rvRemu rd rs1 rs2)
  | _, _ => none

/-- Opcode 0010011 (R152): `funct3` selects the instruction, for the shifts `w[31:25]` as well. -/
def decodeOpImm (f7 f3 : Nat) (rd rs1 rs2 : BitVec 5) (imm : BitVec 12) : Option Instr :=
  match f3 with
  | 0 => some (.rvAddi rd rs1 imm)
  | 1 => if f7 = 0 then some (.rvSlli rd rs1 rs2) else none
  | 2 => some (.rvSlti rd rs1 imm)
  | 3 => some (.rvSltiu rd rs1 imm)
  | 4 => some (.rvXori rd rs1 imm)
  | 5 => if f7 = 0 then some (.rvSrli rd rs1 rs2) else if f7 = 32 then some (.rvSrai rd rs1 rs2) else none
  | 6 => some (.rvOri rd rs1 imm)
  | 7 => some (.rvAndi rd rs1 imm)
  | _ => none

/-- Opcode 0000011 (R152). -/
def decodeLoad (f3 : Nat) (rd rs1 : BitVec 5) (imm : BitVec 12) : Option Instr :=
  match f3 with
  | 0 => some (.rvLb rd rs1 imm)
  | 1 => some (.rvLh rd rs1 imm)
  | 2 => some (.rvLw rd rs1 imm)
  | 4 => some (.rvLbu rd rs1 imm)
  | 5 => some (.rvLhu rd rs1 imm)
  | _ => none

/-- Opcode 0100011 (R152). -/
def decodeStore (f3 : Nat) (rs1 rs2 : BitVec 5) (imm : BitVec 12) : Option Instr :=
  match f3 with
  | 0 => some (.rvSb rs1 rs2 imm)
  | 1 => some (.rvSh rs1 rs2 imm)
  | 2 => some (.rvSw rs1 rs2 imm)
  | _ => none

/-- Opcode 1100011 (R152). -/
def decodeBranch (f3 : Nat) (rs1 rs2 : BitVec 5) (imm : BitVec 12) : Option Instr :=
  match f3 with
  | 0 => some (.rvBeq rs1 rs2 imm)
  | 1 => some (.rvBne rs1 rs2 imm)
  | 4 => some (.rvBlt rs1 rs2 imm)
  | 5 => some (.rvBge rs1 rs2 imm)
  | 6 => some (.rvBltu rs1 rs2 imm)
  | 7 => some (.rvBgeu rs1 rs2 imm)
  | _ => none

/-- custom-0, `funct3 = 101`: the 256-bit instructions, by `funct7` (R146). -/
def decodeInt256 (f7 : Nat) (rd rs1 rs2 : BitVec 5) : Option Instr :=
  match f7 with
  | 0 => some (.rvAdd256 rd rs1 rs2)
  | 1 => some (.rvSub256 rd rs1 rs2)
  | 2 => some (.rvXor256 rd rs1 rs2)
  | 3 => some (.rvOr256 rd rs1 rs2)
  | 4 => some (.rvAnd256 rd rs1 rs2)
  | 5 => some (.rvSll256 rd rs1 rs2)
  | 6 => some (.rvSrl256 rd rs1 rs2)
  | 7 => some (.rvSra256 rd rs1 rs2)
  | 8 => some (.rvSlt256 rd rs1 rs2)
  | 9 => some (.rvSltu256 rd rs1 rs2)
  | 10 => some (.rvBeq256 rd rs1 rs2)
  | 11 => some (.rvBne256 rd rs1 rs2)
  | 12 => some (.rvBlt256 rd rs1 rs2)
  | 13 => some (.rvBge256 rd rs1 rs2)
  | 14 => some (.rvBltu256 rd rs1 rs2)
  | 15 => some (.rvBgeu256 rd rs1 rs2)
  | 16 => some (.rvMul256 rd rs1 rs2)
  | _ => none

/-- custom-0, opcode 0001011: `funct3` is the class (R143 to R146). Register fields the source does not mention are ignored
(D38). -/
def decodeCustom0 (w : Word) : Option Instr :=
  match (rvFunct3 w).toNat with
  | 0 => some (.rvTerminate (immI w))
  | 1 => some (.rvHintstorew (rvRd w) (immI w))
  | 2 => some (.rvReveal (rvRs1 w) (rvRd w) (immI w))
  | 3 => if immI w = 0 then some .rvHintinput else none
  | 4 => if rvFunct7 w = 0 then some (.rvKeccak256 (rvRd w) (rvRs1 w) (rvRs2 w)) else none
  | 5 => decodeInt256 (rvFunct7 w).toNat (rvRd w) (rvRs1 w) (rvRs2 w)
  | _ => none

/-- custom-1, `funct3 = 000`: the modular instructions, `funct7 = idx*8 + k` (R148). -/
def decodeModular (k : Nat) (idx : BitVec 4) (rd rs1 rs2 : BitVec 5) : Option Instr :=
  match k with
  | 0 => some (.rvAddmod idx rd rs1 rs2)
  | 1 => some (.rvSubmod idx rd rs1 rs2)
  | 2 => some (.rvMulmod idx rd rs1 rs2)
  | 3 => some (.rvDivmod idx rd rs1 rs2)
  | 4 => some (.rvIseqmod idx rd rs1 rs2)
  | _ => none

/-- custom-1, `funct3 = 001`: the curve instructions, `funct7 = idx*8 + k`; `rs2` of `sw_double` "must be set to `x0`" (R148). -/
def decodeCurve (k : Nat) (idx : BitVec 4) (rd rs1 rs2 : BitVec 5) : Option Instr :=
  match k with
  | 0 => some (.rvSwAddNe idx rd rs1 rs2)
  | 1 => if rs2 = 0 then some (.rvSwDouble idx rd rs1) else none
  | _ => none

/-- custom-1, opcode 0101011 (R148). -/
def decodeCustom1 (w : Word) : Option Instr :=
  match (rvFunct3 w).toNat with
  | 0 => decodeModular ((rvFunct7 w).extractLsb' 0 3).toNat ((rvFunct7 w).extractLsb' 3 4) (rvRd w) (rvRs1 w) (rvRs2 w)
  | 1 => decodeCurve ((rvFunct7 w).extractLsb' 0 3).toNat ((rvFunct7 w).extractLsb' 3 4) (rvRd w) (rvRs1 w) (rvRs2 w)
  | _ => none

/-- The instruction a RISC-V word stands for (R144 to R148, R152), none for the words of R149 and R154. -/
def decodeWord (w : Word) : Option Instr :=
  match (rvOpcode w).toNat with
  | 0x33 => decodeOp (rvFunct7 w).toNat (rvFunct3 w).toNat (rvRd w) (rvRs1 w) (rvRs2 w)
  | 0x13 => decodeOpImm (rvFunct7 w).toNat (rvFunct3 w).toNat (rvRd w) (rvRs1 w) (rvRs2 w) (immI w)
  | 0x03 => decodeLoad (rvFunct3 w).toNat (rvRd w) (rvRs1 w) (immI w)
  | 0x23 => decodeStore (rvFunct3 w).toNat (rvRs1 w) (rvRs2 w) (immS w)
  | 0x63 => decodeBranch (rvFunct3 w).toNat (rvRs1 w) (rvRs2 w) (immB w)
  | 0x6F => some (.rvJal (rvRd w) (immJ w))
  | 0x67 => if rvFunct3 w = 0 then some (.rvJalr (rvRd w) (rvRs1 w) (immI w)) else none
  | 0x37 => some (.rvLui (rvRd w) (immU w))
  | 0x17 => some (.rvAuipc (rvRd w) (immU w))
  | 0x0B => decodeCustom0 w
  | 0x2B => decodeCustom1 w
  | _ => none

/-- The word of a RISC-V instruction, none for an axVM instruction (R141 to R153). Ignored register fields are written as 0. -/
def encodeWord : Instr → Option Word
  | .terminate _ => none
  | .phantom _ => none
  | .phantomNop _ => none
  | .phantomDebugPanic _ => none
  | .phantomPrintF _ => none
  | .phantomHintInput _ => none
  | .phantomHintBits _ => none
  | .phantomCtStart _ => none
  | .phantomCtEnd _ => none
  | .phantomHintFinalExpBn254 _ => none
  | .phantomHintFinalExpBls12381 _ => none
  | .addRv32 _ => none
  | .subRv32 _ => none
  | .xorRv32 _ => none
  | .orRv32 _ => none
  | .andRv32 _ => none
  | .sllRv32 _ => none
  | .srlRv32 _ => none
  | .sraRv32 _ => none
  | .sltRv32 _ => none
  | .sltuRv32 _ => none
  | .loadbRv32 _ => none
  | .loadhRv32 _ => none
  | .loadwRv32 _ => none
  | .loadbuRv32 _ => none
  | .loadhuRv32 _ => none
  | .storebRv32 _ => none
  | .storehRv32 _ => none
  | .storewRv32 _ => none
  | .beqRv32 _ => none
  | .bneRv32 _ => none
  | .bltRv32 _ => none
  | .bgeRv32 _ => none
  | .bltuRv32 _ => none
  | .bgeuRv32 _ => none
  | .jalRv32 _ => none
  | .jalrRv32 _ => none
  | .luiRv32 _ => none
  | .auipcRv32 _ => none
  | .mulRv32 _ => none
  | .mulhRv32 _ => none
  | .mulhsuRv32 _ => none
  | .mulhuRv32 _ => none
  | .divRv32 _ => none
  | .divuRv32 _ => none
  | .remRv32 _ => none
  | .remuRv32 _ => none
  | .hintstorewRv32 _ => none
  | .revealRv32 _ => none
  | .keccak256Rv32 _ => none
  | .add256Rv32 _ => none
  | .sub256Rv32 _ => none
  | .xor256Rv32 _ => none
  | .or256Rv32 _ => none
  | .and256Rv32 _ => none
  | .sll256Rv32 _ => none
  | .srl256Rv32 _ => none
  | .sra256Rv32 _ => none
  | .slt256Rv32 _ => none
  | .sltu256Rv32 _ => none
  | .beq256Rv32 _ => none
  | .bne256Rv32 _ => none
  | .blt256Rv32 _ => none
  | .bge256Rv32 _ => none
  | .bltu256Rv32 _ => none
  | .bgeu256Rv32 _ => none
  | .mul256Rv32 _ => none
  | .addmodRv32 _ _ => none
  | .submodRv32 _ _ => none
  | .mulmodRv32 _ _ => none
  | .divmodRv32 _ _ => none
  | .iseqmodRv32 _ _ => none
  | .swAddNe _ _ => none
  | .swDouble _ _ => none
  | .load _ _ => none
  | .store _ _ => none
  | .load2 _ => none
  | .store2 _ => none
  | .shintw _ => none
  | .jal _ => none
  | .beq _ _ => none
  | .bne _ _ => none
  | .publish _ => none
  | .castf _ => none
  | .addf _ => none
  | .subf _ => none
  | .mulf _ => none
  | .divf _ => none
  | .fe4add _ => none
  | .fe4sub _ => none
  | .bbe4mul _ => none
  | .bbe4div _ => none
  | .compressPoseidon2 _ => none
  | .permPoseidon2 _ => none
  | .rvAdd rd rs1 rs2 => some (packWord 0 rs2 rs1 0 rd 0x33)
  | .rvSub rd rs1 rs2 => some (packWord 32 rs2 rs1 0 rd 0x33)
  | .rvXor rd rs1 rs2 => some (packWord 0 rs2 rs1 4 rd 0x33)
  | .rvOr rd rs1 rs2 => some (packWord 0 rs2 rs1 6 rd 0x33)
  | .rvAnd rd rs1 rs2 => some (packWord 0 rs2 rs1 7 rd 0x33)
  | .rvSll rd rs1 rs2 => some (packWord 0 rs2 rs1 1 rd 0x33)
  | .rvSrl rd rs1 rs2 => some (packWord 0 rs2 rs1 5 rd 0x33)
  | .rvSra rd rs1 rs2 => some (packWord 32 rs2 rs1 5 rd 0x33)
  | .rvSlt rd rs1 rs2 => some (packWord 0 rs2 rs1 2 rd 0x33)
  | .rvSltu rd rs1 rs2 => some (packWord 0 rs2 rs1 3 rd 0x33)
  | .rvAddi rd rs1 imm => some (packI imm rs1 0 rd 0x13)
  | .rvXori rd rs1 imm => some (packI imm rs1 4 rd 0x13)
  | .rvOri rd rs1 imm => some (packI imm rs1 6 rd 0x13)
  | .rvAndi rd rs1 imm => some (packI imm rs1 7 rd 0x13)
  | .rvSlli rd rs1 shamt => some (packWord 0 shamt rs1 1 rd 0x13)
  | .rvSrli rd rs1 shamt => some (packWord 0 shamt rs1 5 rd 0x13)
  | .rvSrai rd rs1 shamt => some (packWord 32 shamt rs1 5 rd 0x13)
  | .rvSlti rd rs1 imm => some (packI imm rs1 2 rd 0x13)
  | .rvSltiu rd rs1 imm => some (packI imm rs1 3 rd 0x13)
  | .rvLb rd rs1 imm => some (packI imm rs1 0 rd 0x03)
  | .rvLh rd rs1 imm => some (packI imm rs1 1 rd 0x03)
  | .rvLw rd rs1 imm => some (packI imm rs1 2 rd 0x03)
  | .rvLbu rd rs1 imm => some (packI imm rs1 4 rd 0x03)
  | .rvLhu rd rs1 imm => some (packI imm rs1 5 rd 0x03)
  | .rvSb rs1 rs2 imm => some (packS imm rs2 rs1 0 0x23)
  | .rvSh rs1 rs2 imm => some (packS imm rs2 rs1 1 0x23)
  | .rvSw rs1 rs2 imm => some (packS imm rs2 rs1 2 0x23)
  | .rvBeq rs1 rs2 imm => some (packB imm rs2 rs1 0 0x63)
  | .rvBne rs1 rs2 imm => some (packB imm rs2 rs1 1 0x63)
  | .rvBlt rs1 rs2 imm => some (packB imm rs2 rs1 4 0x63)
  | .rvBge rs1 rs2 imm => some (packB imm rs2 rs1 5 0x63)
  | .rvBltu rs1 rs2 imm => some (packB imm rs2 rs1 6 0x63)
  | .rvBgeu rs1 rs2 imm => some (packB imm rs2 rs1 7 0x63)
  | .rvJal rd imm => some (packJ imm rd 0x6F)
  | .rvJalr rd rs1 imm => some (packI imm rs1 0 rd 0x67)
  | .rvLui rd imm => some (packU imm rd 0x37)
  | .rvAuipc rd imm => some (packU imm rd 0x17)
  | .rvMul rd rs1 rs2 => some (packWord 1 rs2 rs1 0 rd 0x33)
  | .rvMulh rd rs1 rs2 => some (packWord 1 rs2 rs1 1 rd 0x33)
  | .rvMulhsu rd rs1 rs2 => some (packWord 1 rs2 rs1 2 rd 0x33)
  | .rvMulhu rd rs1 rs2 => some (packWord 1 rs2 rs1 3 rd 0x33)
  | .rvDiv rd rs1 rs2 => some (packWord 1 rs2 rs1 4 rd 0x33)
  | .rvDivu rd rs1 rs2 => some (packWord 1 rs2 rs1 5 rd 0x33)
  | .rvRem rd rs1 rs2 => some (packWord 1 rs2 rs1 6 rd 0x33)
  | .rvRemu rd rs1 rs2 => some (packWord 1 rs2 rs1 7 rd 0x33)
  | .rvTerminate code => some (packI code 0 0 0 0x0B)
  | .rvHintstorew rd imm => some (packI imm 0 1 rd 0x0B)
  | .rvReveal rs1 rd imm => some (packI imm rs1 2 rd 0x0B)
  | .rvHintinput => some (packI 0 0 3 0 0x0B)
  | .rvKeccak256 rd rs1 rs2 => some (packWord 0 rs2 rs1 4 rd 0x0B)
  | .rvAdd256 rd rs1 rs2 => some (packWord 0 rs2 rs1 5 rd 0x0B)
  | .rvSub256 rd rs1 rs2 => some (packWord 1 rs2 rs1 5 rd 0x0B)
  | .rvXor256 rd rs1 rs2 => some (packWord 2 rs2 rs1 5 rd 0x0B)
  | .rvOr256 rd rs1 rs2 => some (packWord 3 rs2 rs1 5 rd 0x0B)
  | .rvAnd256 rd rs1 rs2 => some (packWord 4 rs2 rs1 5 rd 0x0B)
  | .rvSll256 rd rs1 rs2 => some (packWord 5 rs2 rs1 5 rd 0x0B)
  | .rvSrl256 rd rs1 rs2 => some (packWord 6 rs2 rs1 5 rd 0x0B)
  | .rvSra256 rd rs1 rs2 => some (packWord 7 rs2 rs1 5 rd 0x0B)
  | .rvSlt256 rd rs1 rs2 => some (packWord 8 rs2 rs1 5 rd 0x0B)
  | .rvSltu256 rd rs1 rs2 => some (packWord 9 rs2 rs1 5 rd 0x0B)
  | .rvBeq256 rd rs1 rs2 => some (packWord 10 rs2 rs1 5 rd 0x0B)
  | .rvBne256 rd rs1 rs2 => some (packWord 11 rs2 rs1 5 rd 0x0B)
  | .rvBlt256 rd rs1 rs2 => some (packWord 12 rs2 rs1 5 rd 0x0B)
  | .rvBge256 rd rs1 rs2 => some (packWord 13 rs2 rs1 5 rd 0x0B)
  | .rvBltu256 rd rs1 rs2 => some (packWord 14 rs2 rs1 5 rd 0x0B)
  | .rvBgeu256 rd rs1 rs2 => some (packWord 15 rs2 rs1 5 rd 0x0B)
  | .rvMul256 rd rs1 rs2 => some (packWord 16 rs2 rs1 5 rd 0x0B)
  | .rvAddmod idx rd rs1 rs2 => some (packWord (idx ++ (0 : BitVec 3)) rs2 rs1 0 rd 0x2B)
  | .rvSubmod idx rd rs1 rs2 => some (packWord (idx ++ (1 : BitVec 3)) rs2 rs1 0 rd 0x2B)
  | .rvMulmod idx rd rs1 rs2 => some (packWord (idx ++ (2 : BitVec 3)) rs2 rs1 0 rd 0x2B)
  | .rvDivmod idx rd rs1 rs2 => some (packWord (idx ++ (3 : BitVec 3)) rs2 rs1 0 rd 0x2B)
  | .rvIseqmod idx rd rs1 rs2 => some (packWord (idx ++ (4 : BitVec 3)) rs2 rs1 0 rd 0x2B)
  | .rvSwAddNe idx rd rs1 rs2 => some (packWord (idx ++ (0 : BitVec 3)) rs2 rs1 1 rd 0x2B)
  | .rvSwDouble idx rd rs1 => some (packWord (idx ++ (1 : BitVec 3)) 0 rs1 1 rd 0x2B)

/-! ### axVM tuples -/

/-- The canonical representatives of seven operands: `F` "cannot distinguish between 0 and p" (R97). -/
def Operands.canon (p : Nat) (o : Operands) : Operands :=
  ⟨o.a % p, o.b % p, o.c % p, o.d % p, o.e % p, o.f % p, o.g % p⟩

/-- The operands of a phantom sub-instruction, `c_upper = canon(c) >> 16` (R190). -/
def Operands.toPhantom (o : Operands) : PhantomOperands := ⟨o.a, o.b, o.c / 65536, o.d, o.e, o.f, o.g⟩

/-- The tuple operands of a phantom sub-instruction with the discriminant `disc` in the low 16 bits of `c` (R190). -/
def PhantomOperands.toOperands (disc : Nat) (q : PhantomOperands) : Operands :=
  ⟨q.a, q.b, q.cUpper * 65536 + disc, q.d, q.e, q.f, q.g⟩

/-- `PHANTOM`: the low 16 bits of `c` select the sub-instruction (R190); discriminants that are not assigned (R198) stay
`PHANTOM` itself. -/
def decodePhantom (o : Operands) : Instr :=
  match o.c % 65536 with
  | 0 => .phantomNop o.toPhantom
  | 1 => .phantomDebugPanic o.toPhantom
  | 2 => .phantomPrintF o.toPhantom
  | 3 => .phantomHintInput o.toPhantom
  | 4 => .phantomHintBits o.toPhantom
  | 5 => .phantomCtStart o.toPhantom
  | 6 => .phantomCtEnd o.toPhantom
  | 7 => .phantomHintFinalExpBn254 o.toPhantom
  | 8 => .phantomHintFinalExpBls12381 o.toPhantom
  | _ => .phantom o

/-- The instruction of a mnemonic and its operands. `STOREW_RV32` with `e = 3` is named `REVEAL_RV32` (R130; log 20). -/
def Instr.ofOp : Op → Operands → Instr
  | .terminate, o => .terminate o
  | .phantom, o => decodePhantom o
  | .addRv32, o => .addRv32 o
  | .subRv32, o => .subRv32 o
  | .xorRv32, o => .xorRv32 o
  | .orRv32, o => .orRv32 o
  | .andRv32, o => .andRv32 o
  | .sllRv32, o => .sllRv32 o
  | .srlRv32, o => .srlRv32 o
  | .sraRv32, o => .sraRv32 o
  | .sltRv32, o => .sltRv32 o
  | .sltuRv32, o => .sltuRv32 o
  | .loadbRv32, o => .loadbRv32 o
  | .loadhRv32, o => .loadhRv32 o
  | .loadwRv32, o => .loadwRv32 o
  | .loadbuRv32, o => .loadbuRv32 o
  | .loadhuRv32, o => .loadhuRv32 o
  | .storebRv32, o => .storebRv32 o
  | .storehRv32, o => .storehRv32 o
  | .storewRv32, o => if o.e = 3 then .revealRv32 o else .storewRv32 o
  | .beqRv32, o => .beqRv32 o
  | .bneRv32, o => .bneRv32 o
  | .bltRv32, o => .bltRv32 o
  | .bgeRv32, o => .bgeRv32 o
  | .bltuRv32, o => .bltuRv32 o
  | .bgeuRv32, o => .bgeuRv32 o
  | .jalRv32, o => .jalRv32 o
  | .jalrRv32, o => .jalrRv32 o
  | .luiRv32, o => .luiRv32 o
  | .auipcRv32, o => .auipcRv32 o
  | .mulRv32, o => .mulRv32 o
  | .mulhRv32, o => .mulhRv32 o
  | .mulhsuRv32, o => .mulhsuRv32 o
  | .mulhuRv32, o => .mulhuRv32 o
  | .divRv32, o => .divRv32 o
  | .divuRv32, o => .divuRv32 o
  | .remRv32, o => .remRv32 o
  | .remuRv32, o => .remuRv32 o
  | .hintstorewRv32, o => .hintstorewRv32 o
  | .keccak256Rv32, o => .keccak256Rv32 o
  | .add256Rv32, o => .add256Rv32 o
  | .sub256Rv32, o => .sub256Rv32 o
  | .xor256Rv32, o => .xor256Rv32 o
  | .or256Rv32, o => .or256Rv32 o
  | .and256Rv32, o => .and256Rv32 o
  | .sll256Rv32, o => .sll256Rv32 o
  | .srl256Rv32, o => .srl256Rv32 o
  | .sra256Rv32, o => .sra256Rv32 o
  | .slt256Rv32, o => .slt256Rv32 o
  | .sltu256Rv32, o => .sltu256Rv32 o
  | .beq256Rv32, o => .beq256Rv32 o
  | .bne256Rv32, o => .bne256Rv32 o
  | .blt256Rv32, o => .blt256Rv32 o
  | .bge256Rv32, o => .bge256Rv32 o
  | .bltu256Rv32, o => .bltu256Rv32 o
  | .bgeu256Rv32, o => .bgeu256Rv32 o
  | .mul256Rv32, o => .mul256Rv32 o
  | .addmodRv32 i, o => .addmodRv32 i o
  | .submodRv32 i, o => .submodRv32 i o
  | .mulmodRv32 i, o => .mulmodRv32 i o
  | .divmodRv32 i, o => .divmodRv32 i o
  | .iseqmodRv32 i, o => .iseqmodRv32 i o
  | .swAddNe i, o => .swAddNe i o
  | .swDouble i, o => .swDouble i o
  | .load w, o => .load w o
  | .store w, o => .store w o
  | .load2, o => .load2 o
  | .store2, o => .store2 o
  | .shintw, o => .shintw o
  | .jal, o => .jal o
  | .beq w, o => .beq w o
  | .bne w, o => .bne w o
  | .publish, o => .publish o
  | .castf, o => .castf o
  | .addf, o => .addf o
  | .subf, o => .subf o
  | .mulf, o => .mulf o
  | .divf, o => .divf o
  | .fe4add, o => .fe4add o
  | .fe4sub, o => .fe4sub o
  | .bbe4mul, o => .bbe4mul o
  | .bbe4div, o => .bbe4div o
  | .compressPoseidon2, o => .compressPoseidon2 o
  | .permPoseidon2, o => .permPoseidon2 o

/-- The operands of an axVM instruction as its tuple holds them, none for a RISC-V word (R120, R190). -/
def Instr.operands : Instr → Option Operands
  | .terminate o => some o
  | .phantom o => some o
  | .phantomNop q => some (q.toOperands 0)
  | .phantomDebugPanic q => some (q.toOperands 1)
  | .phantomPrintF q => some (q.toOperands 2)
  | .phantomHintInput q => some (q.toOperands 3)
  | .phantomHintBits q => some (q.toOperands 4)
  | .phantomCtStart q => some (q.toOperands 5)
  | .phantomCtEnd q => some (q.toOperands 6)
  | .phantomHintFinalExpBn254 q => some (q.toOperands 7)
  | .phantomHintFinalExpBls12381 q => some (q.toOperands 8)
  | .addRv32 o => some o
  | .subRv32 o => some o
  | .xorRv32 o => some o
  | .orRv32 o => some o
  | .andRv32 o => some o
  | .sllRv32 o => some o
  | .srlRv32 o => some o
  | .sraRv32 o => some o
  | .sltRv32 o => some o
  | .sltuRv32 o => some o
  | .loadbRv32 o => some o
  | .loadhRv32 o => some o
  | .loadwRv32 o => some o
  | .loadbuRv32 o => some o
  | .loadhuRv32 o => some o
  | .storebRv32 o => some o
  | .storehRv32 o => some o
  | .storewRv32 o => some o
  | .beqRv32 o => some o
  | .bneRv32 o => some o
  | .bltRv32 o => some o
  | .bgeRv32 o => some o
  | .bltuRv32 o => some o
  | .bgeuRv32 o => some o
  | .jalRv32 o => some o
  | .jalrRv32 o => some o
  | .luiRv32 o => some o
  | .auipcRv32 o => some o
  | .mulRv32 o => some o
  | .mulhRv32 o => some o
  | .mulhsuRv32 o => some o
  | .mulhuRv32 o => some o
  | .divRv32 o => some o
  | .divuRv32 o => some o
  | .remRv32 o => some o
  | .remuRv32 o => some o
  | .hintstorewRv32 o => some o
  | .revealRv32 o => some o
  | .keccak256Rv32 o => some o
  | .add256Rv32 o => some o
  | .sub256Rv32 o => some o
  | .xor256Rv32 o => some o
  | .or256Rv32 o => some o
  | .and256Rv32 o => some o
  | .sll256Rv32 o => some o
  | .srl256Rv32 o => some o
  | .sra256Rv32 o => some o
  | .slt256Rv32 o => some o
  | .sltu256Rv32 o => some o
  | .beq256Rv32 o => some o
  | .bne256Rv32 o => some o
  | .blt256Rv32 o => some o
  | .bge256Rv32 o => some o
  | .bltu256Rv32 o => some o
  | .bgeu256Rv32 o => some o
  | .mul256Rv32 o => some o
  | .addmodRv32 _ o => some o
  | .submodRv32 _ o => some o
  | .mulmodRv32 _ o => some o
  | .divmodRv32 _ o => some o
  | .iseqmodRv32 _ o => some o
  | .swAddNe _ o => some o
  | .swDouble _ o => some o
  | .load _ o => some o
  | .store _ o => some o
  | .load2 o => some o
  | .store2 o => some o
  | .shintw o => some o
  | .jal o => some o
  | .beq _ o => some o
  | .bne _ o => some o
  | .publish o => some o
  | .castf o => some o
  | .addf o => some o
  | .subf o => some o
  | .mulf o => some o
  | .divf o => some o
  | .fe4add o => some o
  | .fe4sub o => some o
  | .bbe4mul o => some o
  | .bbe4div o => some o
  | .compressPoseidon2 o => some o
  | .permPoseidon2 o => some o
  | .rvAdd _ _ _ => none
  | .rvSub _ _ _ => none
  | .rvXor _ _ _ => none
  | .rvOr _ _ _ => none
  | .rvAnd _ _ _ => none
  | .rvSll _ _ _ => none
  | .rvSrl _ _ _ => none
  | .rvSra _ _ _ => none
  | .rvSlt _ _ _ => none
  | .rvSltu _ _ _ => none
  | .rvAddi _ _ _ => none
  | .rvXori _ _ _ => none
  | .rvOri _ _ _ => none
  | .rvAndi _ _ _ => none
  | .rvSlli _ _ _ => none
  | .rvSrli _ _ _ => none
  | .rvSrai _ _ _ => none
  | .rvSlti _ _ _ => none
  | .rvSltiu _ _ _ => none
  | .rvLb _ _ _ => none
  | .rvLh _ _ _ => none
  | .rvLw _ _ _ => none
  | .rvLbu _ _ _ => none
  | .rvLhu _ _ _ => none
  | .rvSb _ _ _ => none
  | .rvSh _ _ _ => none
  | .rvSw _ _ _ => none
  | .rvBeq _ _ _ => none
  | .rvBne _ _ _ => none
  | .rvBlt _ _ _ => none
  | .rvBge _ _ _ => none
  | .rvBltu _ _ _ => none
  | .rvBgeu _ _ _ => none
  | .rvJal _ _ => none
  | .rvJalr _ _ _ => none
  | .rvLui _ _ => none
  | .rvAuipc _ _ => none
  | .rvMul _ _ _ => none
  | .rvMulh _ _ _ => none
  | .rvMulhsu _ _ _ => none
  | .rvMulhu _ _ _ => none
  | .rvDiv _ _ _ => none
  | .rvDivu _ _ _ => none
  | .rvRem _ _ _ => none
  | .rvRemu _ _ _ => none
  | .rvTerminate _ => none
  | .rvHintstorew _ _ => none
  | .rvReveal _ _ _ => none
  | .rvHintinput => none
  | .rvKeccak256 _ _ _ => none
  | .rvAdd256 _ _ _ => none
  | .rvSub256 _ _ _ => none
  | .rvXor256 _ _ _ => none
  | .rvOr256 _ _ _ => none
  | .rvAnd256 _ _ _ => none
  | .rvSll256 _ _ _ => none
  | .rvSrl256 _ _ _ => none
  | .rvSra256 _ _ _ => none
  | .rvSlt256 _ _ _ => none
  | .rvSltu256 _ _ _ => none
  | .rvBeq256 _ _ _ => none
  | .rvBne256 _ _ _ => none
  | .rvBlt256 _ _ _ => none
  | .rvBge256 _ _ _ => none
  | .rvBltu256 _ _ _ => none
  | .rvBgeu256 _ _ _ => none
  | .rvMul256 _ _ _ => none
  | .rvAddmod _ _ _ _ => none
  | .rvSubmod _ _ _ _ => none
  | .rvMulmod _ _ _ _ => none
  | .rvDivmod _ _ _ _ => none
  | .rvIseqmod _ _ _ _ => none
  | .rvSwAddNe _ _ _ _ => none
  | .rvSwDouble _ _ _ => none

/-- The mnemonic of an opcode (R9, R129). -/
def opOf : List (Nat × Op) → Nat → Option Op
  | [], _ => none
  | (k, op) :: rest, x => if k = x then some op else opOf rest x

/-- The opcode of a mnemonic, `OPCODE(m)` (R9). -/
def opcodeOf : List (Nat × Op) → Op → Option Nat
  | [], _ => none
  | (k, op) :: rest, m => if op = m then some k else opcodeOf rest m

/-- The instruction a tuple denotes, none where the opcode belongs to no mnemonic (R122, R129). -/
def decodeTuple (cfg : Config) (t : Tuple) : Option Instr :=
  match opOf cfg.opcodes (t.opcode % cfg.p) with
  | some op => some (Instr.ofOp op (t.ops.canon cfg.p))
  | none => none

/-- The instruction a ROM entry denotes. -/
def decode (cfg : Config) : RomEntry → Option Instr
  | .tuple t => decodeTuple cfg t
  | .riscv w => decodeWord w

/-- The ROM entry of an instruction: the tuple of an axVM instruction whose mnemonic has an opcode, the word of a RISC-V
instruction. -/
def encode (cfg : Config) (i : Instr) : Option RomEntry :=
  match i.op, i.operands with
  | some op, some o =>
    match opcodeOf cfg.opcodes op with
    | some k => some (.tuple ⟨k, o⟩)
    | none => none
  | _, _ =>
    match encodeWord i with
    | some w => some (.riscv w)
    | none => none

/-- The tuple whose eight elements are the successive 32-bit words of a number, the opcode lowest (DESIGN CHOICE, log 10, safe: the
spec gives a tuple no layout in bits, R120). -/
def tupleOfBits (n : Nat) : Tuple :=
  ⟨n % 2 ^ 32, n / 2 ^ 32 % 2 ^ 32, n / 2 ^ 64 % 2 ^ 32, n / 2 ^ 96 % 2 ^ 32, n / 2 ^ 128 % 2 ^ 32, n / 2 ^ 160 % 2 ^ 32,
    n / 2 ^ 192 % 2 ^ 32, n / 2 ^ 224 % 2 ^ 32⟩

/-- The ROM entry whose bits are `w`: a RISC-V word where the table gives at most 32 bits, a tuple otherwise. -/
def entryOfBits (nbits w : Nat) : RomEntry :=
  if nbits ≤ 32 then .riscv (BitVec.ofNat 32 w) else .tuple (tupleOfBits w)

/-- The instruction the decoder reads from the bits `w`, under the launch configuration. -/
def decodeTableWord (nbits w : Nat) : Option Instr := decode Config.launch (entryOfBits nbits w)

end Sys2Proof
end

