-- ==== Sys2Proof/Machine/Transpile.lean ====
section
/-!
DEFINITION. The transpilation of RISC-V words (`49_riscv_transpilation.md`): the operands each word stands for, and the map from a
RISC-V instruction to the axVM instruction it becomes (R470). The spec runs it before the machine; here the step
refuses a program that it refuses (`Machine/Fetch.lean`), and a word is transpiled where it is fetched (DESIGN CHOICE, log 9, safe).
-/

namespace Sys2Proof.Machine

/-! ### The functions of R472 -/

/-- `ind(r)`: the pointer of the register's first cell, `4 * i` (R472, D3). -/
def ind (r : BitVec 5) : Nat := 4 * r.toNat

/-- `sign_extend_24(imm)` (R472). -/
def signExtend24 (imm : BitVec 12) : Nat := (imm.signExtend 24).toNat

/-- `sign_extend_16(imm)` (R472). -/
def signExtend16 (imm : BitVec 12) : Nat := (imm.signExtend 16).toNat

/-- `itof` of a B-type immediate: the field element of the 13-bit byte offset whose bit 0 is 0 (R153, R472). -/
def itofB (p : Nat) (imm : BitVec 12) : Nat := fe p (imm ++ (0 : BitVec 1)).toInt

/-- `itof` of a J-type immediate: the field element of the 21-bit byte offset whose bit 0 is 0 (R153, R472). -/
def itofJ (p : Nat) (imm : BitVec 20) : Nat := fe p (imm ++ (0 : BitVec 1)).toInt

/-- `(rd != x0)` (R472). -/
def writeEnable (rd : BitVec 5) : Nat := if rd = 0 then 0 else 1

/-! ### The operand rows -/

/-- `ind(x), ind(y), ind(z), 1, e`. -/
def regForm (x y z : BitVec 5) (e : Nat) : Operands := ⟨ind x, ind y, ind z, 1, e, 0, 0⟩

/-- `ind(x), ind(y), c, 1, e`. -/
def immForm (x y : BitVec 5) (c e : Nat) : Operands := ⟨ind x, ind y, c, 1, e, 0, 0⟩

/-- `ind(x), ind(y), c, 1, e` of the branches, with the offset `c`. -/
def branchForm (x y : BitVec 5) (c e : Nat) : Operands := ⟨ind x, ind y, c, 1, e, 0, 0⟩

/-- `a, b, c, 1, e`. -/
def baseForm (a b c e : Nat) : Operands := ⟨a, b, c, 1, e, 0, 0⟩

/-- `ind(rd), b, c, 1, 0, f`. -/
def jumpForm (rd : BitVec 5) (b c f : Nat) : Operands := ⟨ind rd, b, c, 1, 0, f, 0⟩

/-- `0, 0, utof(code)`: the code is not sign-extended (R529). -/
def exitForm (code : BitVec 12) : Operands := ⟨0, 0, code.toNat, 0, 0, 0, 0⟩

/-- The operands of `PHANTOM 0, 0, disc` (R475, R532). -/
def noPhantom : PhantomOperands := ⟨0, 0, 0, 0, 0, 0, 0⟩

/-- `imm_branch256(w)`, where the configuration supplies it (R147, D23; log 18). -/
def immBranch256 (cfg : Config) (w : Word) : Option Int := (cfg.immBranch256.find? (fun x => x.1 == w)).map (·.2)

/-- The word of the 256-bit branch with the given `funct7` (R146). -/
def branch256Word (f7 : BitVec 7) (rd rs1 rs2 : BitVec 5) : Word := packWord f7 rs2 rs1 5 rd 0x0B

/-! ### The map -/

/-- An instruction that writes `rd` without a write enable is the `NOP` phantom for `rd = x0` (R475, D19). -/
def unlessX0 (rd : BitVec 5) (t : Instr) : Except Refusal Instr := if rd = 0 then .ok (.phantomNop noPhantom) else .ok t

/-- A 256-bit branch, which has a transpilation where its immediate is supplied (R147, R544 to R549). -/
def withBranch256 (cfg : Config) (w : Word) (t : Int → Instr) : Except Refusal Instr :=
  match immBranch256 cfg w with
  | some off => .ok (t off)
  | none => .error .immBranch256NotSupplied

/-- A modular instruction, whose index must be that of a configured modulus (R476, R551). -/
def withModulus (cfg : Config) (idx : BitVec 4) (t : Instr) : Except Refusal Instr :=
  if idx.toNat < cfg.moduli.length then .ok t else .error .modulusNotConfigured

/-- A curve instruction, whose index must be that of a configured curve (R476, R556). -/
def withCurve (cfg : Config) (idx : BitVec 4) (t : Instr) : Except Refusal Instr :=
  if idx.toNat < cfg.curves.length then .ok t else .error .curveNotConfigured

/-- The axVM instruction that an instruction runs as: itself, or what a RISC-V word becomes (R470, R480 to R557). -/
def transpile (cfg : Config) : Instr → Except Refusal Instr
  | .terminate o => .ok (.terminate o)
  | .phantom o => .ok (.phantom o)
  | .phantomNop q => .ok (.phantomNop q)
  | .phantomDebugPanic q => .ok (.phantomDebugPanic q)
  | .phantomPrintF q => .ok (.phantomPrintF q)
  | .phantomHintInput q => .ok (.phantomHintInput q)
  | .phantomHintBits q => .ok (.phantomHintBits q)
  | .phantomCtStart q => .ok (.phantomCtStart q)
  | .phantomCtEnd q => .ok (.phantomCtEnd q)
  | .phantomHintFinalExpBn254 q => .ok (.phantomHintFinalExpBn254 q)
  | .phantomHintFinalExpBls12381 q => .ok (.phantomHintFinalExpBls12381 q)
  | .addRv32 o => .ok (.addRv32 o)
  | .subRv32 o => .ok (.subRv32 o)
  | .xorRv32 o => .ok (.xorRv32 o)
  | .orRv32 o => .ok (.orRv32 o)
  | .andRv32 o => .ok (.andRv32 o)
  | .sllRv32 o => .ok (.sllRv32 o)
  | .srlRv32 o => .ok (.srlRv32 o)
  | .sraRv32 o => .ok (.sraRv32 o)
  | .sltRv32 o => .ok (.sltRv32 o)
  | .sltuRv32 o => .ok (.sltuRv32 o)
  | .loadbRv32 o => .ok (.loadbRv32 o)
  | .loadhRv32 o => .ok (.loadhRv32 o)
  | .loadwRv32 o => .ok (.loadwRv32 o)
  | .loadbuRv32 o => .ok (.loadbuRv32 o)
  | .loadhuRv32 o => .ok (.loadhuRv32 o)
  | .storebRv32 o => .ok (.storebRv32 o)
  | .storehRv32 o => .ok (.storehRv32 o)
  | .storewRv32 o => .ok (.storewRv32 o)
  | .beqRv32 o => .ok (.beqRv32 o)
  | .bneRv32 o => .ok (.bneRv32 o)
  | .bltRv32 o => .ok (.bltRv32 o)
  | .bgeRv32 o => .ok (.bgeRv32 o)
  | .bltuRv32 o => .ok (.bltuRv32 o)
  | .bgeuRv32 o => .ok (.bgeuRv32 o)
  | .jalRv32 o => .ok (.jalRv32 o)
  | .jalrRv32 o => .ok (.jalrRv32 o)
  | .luiRv32 o => .ok (.luiRv32 o)
  | .auipcRv32 o => .ok (.auipcRv32 o)
  | .mulRv32 o => .ok (.mulRv32 o)
  | .mulhRv32 o => .ok (.mulhRv32 o)
  | .mulhsuRv32 o => .ok (.mulhsuRv32 o)
  | .mulhuRv32 o => .ok (.mulhuRv32 o)
  | .divRv32 o => .ok (.divRv32 o)
  | .divuRv32 o => .ok (.divuRv32 o)
  | .remRv32 o => .ok (.remRv32 o)
  | .remuRv32 o => .ok (.remuRv32 o)
  | .hintstorewRv32 o => .ok (.hintstorewRv32 o)
  | .revealRv32 o => .ok (.revealRv32 o)
  | .keccak256Rv32 o => .ok (.keccak256Rv32 o)
  | .add256Rv32 o => .ok (.add256Rv32 o)
  | .sub256Rv32 o => .ok (.sub256Rv32 o)
  | .xor256Rv32 o => .ok (.xor256Rv32 o)
  | .or256Rv32 o => .ok (.or256Rv32 o)
  | .and256Rv32 o => .ok (.and256Rv32 o)
  | .sll256Rv32 o => .ok (.sll256Rv32 o)
  | .srl256Rv32 o => .ok (.srl256Rv32 o)
  | .sra256Rv32 o => .ok (.sra256Rv32 o)
  | .slt256Rv32 o => .ok (.slt256Rv32 o)
  | .sltu256Rv32 o => .ok (.sltu256Rv32 o)
  | .beq256Rv32 o => .ok (.beq256Rv32 o)
  | .bne256Rv32 o => .ok (.bne256Rv32 o)
  | .blt256Rv32 o => .ok (.blt256Rv32 o)
  | .bge256Rv32 o => .ok (.bge256Rv32 o)
  | .bltu256Rv32 o => .ok (.bltu256Rv32 o)
  | .bgeu256Rv32 o => .ok (.bgeu256Rv32 o)
  | .mul256Rv32 o => .ok (.mul256Rv32 o)
  | .addmodRv32 n o => .ok (.addmodRv32 n o)
  | .submodRv32 n o => .ok (.submodRv32 n o)
  | .mulmodRv32 n o => .ok (.mulmodRv32 n o)
  | .divmodRv32 n o => .ok (.divmodRv32 n o)
  | .iseqmodRv32 n o => .ok (.iseqmodRv32 n o)
  | .swAddNe n o => .ok (.swAddNe n o)
  | .swDouble n o => .ok (.swDouble n o)
  | .load w o => .ok (.load w o)
  | .store w o => .ok (.store w o)
  | .load2 o => .ok (.load2 o)
  | .store2 o => .ok (.store2 o)
  | .shintw o => .ok (.shintw o)
  | .jal o => .ok (.jal o)
  | .beq w o => .ok (.beq w o)
  | .bne w o => .ok (.bne w o)
  | .publish o => .ok (.publish o)
  | .castf o => .ok (.castf o)
  | .addf o => .ok (.addf o)
  | .subf o => .ok (.subf o)
  | .mulf o => .ok (.mulf o)
  | .divf o => .ok (.divf o)
  | .fe4add o => .ok (.fe4add o)
  | .fe4sub o => .ok (.fe4sub o)
  | .bbe4mul o => .ok (.bbe4mul o)
  | .bbe4div o => .ok (.bbe4div o)
  | .compressPoseidon2 o => .ok (.compressPoseidon2 o)
  | .permPoseidon2 o => .ok (.permPoseidon2 o)
  | .rvAdd rd rs1 rs2 => unlessX0 rd (.addRv32 (regForm rd rs1 rs2 1))
  | .rvSub rd rs1 rs2 => unlessX0 rd (.subRv32 (regForm rd rs1 rs2 1))
  | .rvXor rd rs1 rs2 => unlessX0 rd (.xorRv32 (regForm rd rs1 rs2 1))
  | .rvOr rd rs1 rs2 => unlessX0 rd (.orRv32 (regForm rd rs1 rs2 1))
  | .rvAnd rd rs1 rs2 => unlessX0 rd (.andRv32 (regForm rd rs1 rs2 1))
  | .rvSll rd rs1 rs2 => unlessX0 rd (.sllRv32 (regForm rd rs1 rs2 1))
  | .rvSrl rd rs1 rs2 => unlessX0 rd (.srlRv32 (regForm rd rs1 rs2 1))
  | .rvSra rd rs1 rs2 => unlessX0 rd (.sraRv32 (regForm rd rs1 rs2 1))
  | .rvSlt rd rs1 rs2 => unlessX0 rd (.sltRv32 (regForm rd rs1 rs2 1))
  | .rvSltu rd rs1 rs2 => unlessX0 rd (.sltuRv32 (regForm rd rs1 rs2 1))
  | .rvAddi rd rs1 imm => unlessX0 rd (.addRv32 (immForm rd rs1 (signExtend24 imm) 0))
  | .rvXori rd rs1 imm => unlessX0 rd (.xorRv32 (immForm rd rs1 (signExtend24 imm) 0))
  | .rvOri rd rs1 imm => unlessX0 rd (.orRv32 (immForm rd rs1 (signExtend24 imm) 0))
  | .rvAndi rd rs1 imm => unlessX0 rd (.andRv32 (immForm rd rs1 (signExtend24 imm) 0))
  | .rvSlli rd rs1 shamt => unlessX0 rd (.sllRv32 (immForm rd rs1 shamt.toNat 0))
  | .rvSrli rd rs1 shamt => unlessX0 rd (.srlRv32 (immForm rd rs1 shamt.toNat 0))
  | .rvSrai rd rs1 shamt => unlessX0 rd (.sraRv32 (immForm rd rs1 shamt.toNat 0))
  | .rvSlti rd rs1 imm => unlessX0 rd (.sltRv32 (immForm rd rs1 (signExtend24 imm) 0))
  | .rvSltiu rd rs1 imm => unlessX0 rd (.sltuRv32 (immForm rd rs1 (signExtend24 imm) 0))
  | .rvLb rd rs1 imm => unlessX0 rd (.loadbRv32 (immForm rd rs1 (signExtend16 imm) 2))
  | .rvLh rd rs1 imm => unlessX0 rd (.loadhRv32 (immForm rd rs1 (signExtend16 imm) 2))
  | .rvLw rd rs1 imm => unlessX0 rd (.loadwRv32 (immForm rd rs1 (signExtend16 imm) 2))
  | .rvLbu rd rs1 imm => unlessX0 rd (.loadbuRv32 (immForm rd rs1 (signExtend16 imm) 2))
  | .rvLhu rd rs1 imm => unlessX0 rd (.loadhuRv32 (immForm rd rs1 (signExtend16 imm) 2))
  | .rvSb rs1 rs2 imm => .ok (.storebRv32 (immForm rs2 rs1 (signExtend16 imm) 2))
  | .rvSh rs1 rs2 imm => .ok (.storehRv32 (immForm rs2 rs1 (signExtend16 imm) 2))
  | .rvSw rs1 rs2 imm => .ok (.storewRv32 (immForm rs2 rs1 (signExtend16 imm) 2))
  | .rvBeq rs1 rs2 imm => .ok (.beqRv32 (branchForm rs1 rs2 (itofB cfg.p imm) 1))
  | .rvBne rs1 rs2 imm => .ok (.bneRv32 (branchForm rs1 rs2 (itofB cfg.p imm) 1))
  | .rvBlt rs1 rs2 imm => .ok (.bltRv32 (branchForm rs1 rs2 (itofB cfg.p imm) 1))
  | .rvBge rs1 rs2 imm => .ok (.bgeRv32 (branchForm rs1 rs2 (itofB cfg.p imm) 1))
  | .rvBltu rs1 rs2 imm => .ok (.bltuRv32 (branchForm rs1 rs2 (itofB cfg.p imm) 1))
  | .rvBgeu rs1 rs2 imm => .ok (.bgeuRv32 (branchForm rs1 rs2 (itofB cfg.p imm) 1))
  | .rvJal rd imm => .ok (.jalRv32 (jumpForm rd 0 (itofJ cfg.p imm) (writeEnable rd)))
  | .rvJalr rd rs1 imm => .ok (.jalrRv32 (jumpForm rd (ind rs1) (signExtend16 imm) (writeEnable rd)))
  | .rvLui rd imm => unlessX0 rd (.luiRv32 (jumpForm rd 0 imm.toNat 1))
  | .rvAuipc rd imm => unlessX0 rd (.auipcRv32 (jumpForm rd 0 imm.toNat 0))
  | .rvMul rd rs1 rs2 => unlessX0 rd (.mulRv32 (regForm rd rs1 rs2 0))
  | .rvMulh rd rs1 rs2 => unlessX0 rd (.mulhRv32 (regForm rd rs1 rs2 0))
  | .rvMulhsu rd rs1 rs2 => unlessX0 rd (.mulhsuRv32 (regForm rd rs1 rs2 0))
  | .rvMulhu rd rs1 rs2 => unlessX0 rd (.mulhuRv32 (regForm rd rs1 rs2 0))
  | .rvDiv rd rs1 rs2 => unlessX0 rd (.divRv32 (regForm rd rs1 rs2 0))
  | .rvDivu rd rs1 rs2 => unlessX0 rd (.divuRv32 (regForm rd rs1 rs2 0))
  | .rvRem rd rs1 rs2 => unlessX0 rd (.remRv32 (regForm rd rs1 rs2 0))
  | .rvRemu rd rs1 rs2 => unlessX0 rd (.remuRv32 (regForm rd rs1 rs2 0))
  | .rvTerminate code => .ok (.terminate (exitForm code))
  | .rvHintstorew rd imm => .ok (.hintstorewRv32 (baseForm 0 (ind rd) (signExtend16 imm) 2))
  | .rvReveal rs1 rd imm => .ok (.revealRv32 (baseForm (ind rs1) (ind rd) (signExtend16 imm) 3))
  | .rvHintinput => .ok (.phantomHintInput noPhantom)
  | .rvKeccak256 rd rs1 rs2 => .ok (.keccak256Rv32 (regForm rd rs1 rs2 2))
  | .rvAdd256 rd rs1 rs2 => .ok (.add256Rv32 (regForm rd rs1 rs2 2))
  | .rvSub256 rd rs1 rs2 => .ok (.sub256Rv32 (regForm rd rs1 rs2 2))
  | .rvXor256 rd rs1 rs2 => .ok (.xor256Rv32 (regForm rd rs1 rs2 2))
  | .rvOr256 rd rs1 rs2 => .ok (.or256Rv32 (regForm rd rs1 rs2 2))
  | .rvAnd256 rd rs1 rs2 => .ok (.and256Rv32 (regForm rd rs1 rs2 2))
  | .rvSll256 rd rs1 rs2 => .ok (.sll256Rv32 (regForm rd rs1 rs2 2))
  | .rvSrl256 rd rs1 rs2 => .ok (.srl256Rv32 (regForm rd rs1 rs2 2))
  | .rvSra256 rd rs1 rs2 => .ok (.sra256Rv32 (regForm rd rs1 rs2 2))
  | .rvSlt256 rd rs1 rs2 => .ok (.slt256Rv32 (regForm rd rs1 rs2 2))
  | .rvSltu256 rd rs1 rs2 => .ok (.sltu256Rv32 (regForm rd rs1 rs2 2))
  | .rvBeq256 rd rs1 rs2 => withBranch256 cfg (branch256Word 10 rd rs1 rs2) (fun off => .beq256Rv32 (branchForm rs1 rs2 (fe cfg.p off) 2))
  | .rvBne256 rd rs1 rs2 => withBranch256 cfg (branch256Word 11 rd rs1 rs2) (fun off => .bne256Rv32 (branchForm rs1 rs2 (fe cfg.p off) 2))
  | .rvBlt256 rd rs1 rs2 => withBranch256 cfg (branch256Word 12 rd rs1 rs2) (fun off => .blt256Rv32 (branchForm rs1 rs2 (fe cfg.p off) 2))
  | .rvBge256 rd rs1 rs2 => withBranch256 cfg (branch256Word 13 rd rs1 rs2) (fun off => .bge256Rv32 (branchForm rs1 rs2 (fe cfg.p off) 2))
  | .rvBltu256 rd rs1 rs2 => withBranch256 cfg (branch256Word 14 rd rs1 rs2) (fun off => .bltu256Rv32 (branchForm rs1 rs2 (fe cfg.p off) 2))
  | .rvBgeu256 rd rs1 rs2 => withBranch256 cfg (branch256Word 15 rd rs1 rs2) (fun off => .bgeu256Rv32 (branchForm rs1 rs2 (fe cfg.p off) 2))
  | .rvMul256 rd rs1 rs2 => .ok (.mul256Rv32 (regForm rd rs1 rs2 2))
  | .rvAddmod idx rd rs1 rs2 => withModulus cfg idx (.addmodRv32 idx.toNat (regForm rd rs1 rs2 2))
  | .rvSubmod idx rd rs1 rs2 => withModulus cfg idx (.submodRv32 idx.toNat (regForm rd rs1 rs2 2))
  | .rvMulmod idx rd rs1 rs2 => withModulus cfg idx (.mulmodRv32 idx.toNat (regForm rd rs1 rs2 2))
  | .rvDivmod idx rd rs1 rs2 => withModulus cfg idx (.divmodRv32 idx.toNat (regForm rd rs1 rs2 2))
  | .rvIseqmod idx rd rs1 rs2 => if rd = 0 then .error .iseqmodIntoX0 else withModulus cfg idx (.iseqmodRv32 idx.toNat (regForm rd rs1 rs2 2))
  | .rvSwAddNe idx rd rs1 rs2 => withCurve cfg idx (.swAddNe idx.toNat (regForm rd rs1 rs2 2))
  | .rvSwDouble idx rd rs1 => withCurve cfg idx (.swDouble idx.toNat (baseForm (ind rd) (ind rs1) 0 2))

end Sys2Proof.Machine
end

