-- ==== Sys2Proof/Machine/Riscv.lean ====
section
/-!
DEFINITION. The meanings of the 74 RISC-V words: each runs the axVM instruction it becomes (`49_riscv_transpilation.md`, R470).
-/

namespace Sys2Proof.Machine

/-- Runs an instruction that writes `rd` without a write enable, and the `NOP` phantom for `rd = x0` (R475, D19). -/
def runUnlessX0 (rd : BitVec 5) (run : State → Host.Outcome State Fault Refusal) (s : State) :
    Host.Outcome State Fault Refusal :=
  if rd = 0 then execPhantomNop noPhantom s else run s

/-- Runs a 256-bit branch where its immediate is supplied (R147, R544 to R549, D23; log 18). -/
def runBranch256 (w : Word) (run : Int → State → Host.Outcome State Fault Refusal) (s : State) :
    Host.Outcome State Fault Refusal :=
  match immBranch256 s.cfg w with
  | some off => run off s
  | none => .refused .immBranch256NotSupplied

/-- Runs a modular instruction whose index is configured (R476, R551). -/
def runModulus (idx : BitVec 4) (run : Nat → State → Host.Outcome State Fault Refusal) (s : State) :
    Host.Outcome State Fault Refusal :=
  if idx.toNat < s.cfg.moduli.length then run idx.toNat s else .refused .modulusNotConfigured

/-- Runs a curve instruction whose index is configured (R476, R556). -/
def runCurve (idx : BitVec 4) (run : Nat → State → Host.Outcome State Fault Refusal) (s : State) :
    Host.Outcome State Fault Refusal :=
  if idx.toNat < s.cfg.curves.length then run idx.toNat s else .refused .curveNotConfigured

/-- `add` becomes `ADD_RV32 4*rd, 4*rs1, 4*rs2, 1, 1`; `NOP` for `rd = x0` (R480). -/
def execRvAdd (rd rs1 rs2 : BitVec 5) (s : State) : Host.Outcome State Fault Refusal :=
  runUnlessX0 rd (execAddRv32 (regForm rd rs1 rs2 1)) s

/-- `sub` becomes `SUB_RV32 4*rd, 4*rs1, 4*rs2, 1, 1`; `NOP` for `rd = x0` (R481). -/
def execRvSub (rd rs1 rs2 : BitVec 5) (s : State) : Host.Outcome State Fault Refusal :=
  runUnlessX0 rd (execSubRv32 (regForm rd rs1 rs2 1)) s

/-- `xor` becomes `XOR_RV32 4*rd, 4*rs1, 4*rs2, 1, 1`; `NOP` for `rd = x0` (R482). -/
def execRvXor (rd rs1 rs2 : BitVec 5) (s : State) : Host.Outcome State Fault Refusal :=
  runUnlessX0 rd (execXorRv32 (regForm rd rs1 rs2 1)) s

/-- `or` becomes `OR_RV32 4*rd, 4*rs1, 4*rs2, 1, 1`; `NOP` for `rd = x0` (R483). -/
def execRvOr (rd rs1 rs2 : BitVec 5) (s : State) : Host.Outcome State Fault Refusal :=
  runUnlessX0 rd (execOrRv32 (regForm rd rs1 rs2 1)) s

/-- `and` becomes `AND_RV32 4*rd, 4*rs1, 4*rs2, 1, 1`; `NOP` for `rd = x0` (R484). -/
def execRvAnd (rd rs1 rs2 : BitVec 5) (s : State) : Host.Outcome State Fault Refusal :=
  runUnlessX0 rd (execAndRv32 (regForm rd rs1 rs2 1)) s

/-- `sll` becomes `SLL_RV32 4*rd, 4*rs1, 4*rs2, 1, 1`; `NOP` for `rd = x0` (R485). -/
def execRvSll (rd rs1 rs2 : BitVec 5) (s : State) : Host.Outcome State Fault Refusal :=
  runUnlessX0 rd (execSllRv32 (regForm rd rs1 rs2 1)) s

/-- `srl` becomes `SRL_RV32 4*rd, 4*rs1, 4*rs2, 1, 1`; `NOP` for `rd = x0` (R486). -/
def execRvSrl (rd rs1 rs2 : BitVec 5) (s : State) : Host.Outcome State Fault Refusal :=
  runUnlessX0 rd (execSrlRv32 (regForm rd rs1 rs2 1)) s

/-- `sra` becomes `SRA_RV32 4*rd, 4*rs1, 4*rs2, 1, 1`; `NOP` for `rd = x0` (R487). -/
def execRvSra (rd rs1 rs2 : BitVec 5) (s : State) : Host.Outcome State Fault Refusal :=
  runUnlessX0 rd (execSraRv32 (regForm rd rs1 rs2 1)) s

/-- `slt` becomes `SLT_RV32 4*rd, 4*rs1, 4*rs2, 1, 1`; `NOP` for `rd = x0` (R488). -/
def execRvSlt (rd rs1 rs2 : BitVec 5) (s : State) : Host.Outcome State Fault Refusal :=
  runUnlessX0 rd (execSltRv32 (regForm rd rs1 rs2 1)) s

/-- `sltu` becomes `SLTU_RV32 4*rd, 4*rs1, 4*rs2, 1, 1`; `NOP` for `rd = x0` (R489). -/
def execRvSltu (rd rs1 rs2 : BitVec 5) (s : State) : Host.Outcome State Fault Refusal :=
  runUnlessX0 rd (execSltuRv32 (regForm rd rs1 rs2 1)) s

/-- `addi` becomes `ADD_RV32 4*rd, 4*rs1, sign_extend_24(imm), 1, 0`; `NOP` for `rd = x0` (R490). -/
def execRvAddi (rd rs1 : BitVec 5) (imm : BitVec 12) (s : State) : Host.Outcome State Fault Refusal :=
  runUnlessX0 rd (execAddRv32 (immForm rd rs1 (signExtend24 imm) 0)) s

/-- `xori` becomes `XOR_RV32 4*rd, 4*rs1, sign_extend_24(imm), 1, 0`; `NOP` for `rd = x0` (R491). -/
def execRvXori (rd rs1 : BitVec 5) (imm : BitVec 12) (s : State) : Host.Outcome State Fault Refusal :=
  runUnlessX0 rd (execXorRv32 (immForm rd rs1 (signExtend24 imm) 0)) s

/-- `ori` becomes `OR_RV32 4*rd, 4*rs1, sign_extend_24(imm), 1, 0`; `NOP` for `rd = x0` (R492). -/
def execRvOri (rd rs1 : BitVec 5) (imm : BitVec 12) (s : State) : Host.Outcome State Fault Refusal :=
  runUnlessX0 rd (execOrRv32 (immForm rd rs1 (signExtend24 imm) 0)) s

/-- `andi` becomes `AND_RV32 4*rd, 4*rs1, sign_extend_24(imm), 1, 0`; `NOP` for `rd = x0` (R493). -/
def execRvAndi (rd rs1 : BitVec 5) (imm : BitVec 12) (s : State) : Host.Outcome State Fault Refusal :=
  runUnlessX0 rd (execAndRv32 (immForm rd rs1 (signExtend24 imm) 0)) s

/-- `slli` becomes `SLL_RV32 4*rd, 4*rs1, shamt, 1, 0`; `NOP` for `rd = x0` (R494). -/
def execRvSlli (rd rs1 shamt : BitVec 5) (s : State) : Host.Outcome State Fault Refusal :=
  runUnlessX0 rd (execSllRv32 (immForm rd rs1 shamt.toNat 0)) s

/-- `srli` becomes `SRL_RV32 4*rd, 4*rs1, shamt, 1, 0`; `NOP` for `rd = x0` (R495). -/
def execRvSrli (rd rs1 shamt : BitVec 5) (s : State) : Host.Outcome State Fault Refusal :=
  runUnlessX0 rd (execSrlRv32 (immForm rd rs1 shamt.toNat 0)) s

/-- `srai` becomes `SRA_RV32 4*rd, 4*rs1, shamt, 1, 0`; `NOP` for `rd = x0` (R496). -/
def execRvSrai (rd rs1 shamt : BitVec 5) (s : State) : Host.Outcome State Fault Refusal :=
  runUnlessX0 rd (execSraRv32 (immForm rd rs1 shamt.toNat 0)) s

/-- `slti` becomes `SLT_RV32 4*rd, 4*rs1, sign_extend_24(imm), 1, 0`; `NOP` for `rd = x0` (R497). -/
def execRvSlti (rd rs1 : BitVec 5) (imm : BitVec 12) (s : State) : Host.Outcome State Fault Refusal :=
  runUnlessX0 rd (execSltRv32 (immForm rd rs1 (signExtend24 imm) 0)) s

/-- `sltiu` becomes `SLTU_RV32 4*rd, 4*rs1, sign_extend_24(imm), 1, 0`; `NOP` for `rd = x0` (R498). -/
def execRvSltiu (rd rs1 : BitVec 5) (imm : BitVec 12) (s : State) : Host.Outcome State Fault Refusal :=
  runUnlessX0 rd (execSltuRv32 (immForm rd rs1 (signExtend24 imm) 0)) s

/-- `lb` becomes `LOADB_RV32 4*rd, 4*rs1, sign_extend_16(imm), 1, 2`; `NOP` for `rd = x0` (R499). -/
def execRvLb (rd rs1 : BitVec 5) (imm : BitVec 12) (s : State) : Host.Outcome State Fault Refusal :=
  runUnlessX0 rd (execLoadbRv32 (immForm rd rs1 (signExtend16 imm) 2)) s

/-- `lh` becomes `LOADH_RV32 4*rd, 4*rs1, sign_extend_16(imm), 1, 2`; `NOP` for `rd = x0` (R500). -/
def execRvLh (rd rs1 : BitVec 5) (imm : BitVec 12) (s : State) : Host.Outcome State Fault Refusal :=
  runUnlessX0 rd (execLoadhRv32 (immForm rd rs1 (signExtend16 imm) 2)) s

/-- `lw` becomes `LOADW_RV32 4*rd, 4*rs1, sign_extend_16(imm), 1, 2`; `NOP` for `rd = x0` (R501). -/
def execRvLw (rd rs1 : BitVec 5) (imm : BitVec 12) (s : State) : Host.Outcome State Fault Refusal :=
  runUnlessX0 rd (execLoadwRv32 (immForm rd rs1 (signExtend16 imm) 2)) s

/-- `lbu` becomes `LOADBU_RV32 4*rd, 4*rs1, sign_extend_16(imm), 1, 2`; `NOP` for `rd = x0` (R502). -/
def execRvLbu (rd rs1 : BitVec 5) (imm : BitVec 12) (s : State) : Host.Outcome State Fault Refusal :=
  runUnlessX0 rd (execLoadbuRv32 (immForm rd rs1 (signExtend16 imm) 2)) s

/-- `lhu` becomes `LOADHU_RV32 4*rd, 4*rs1, sign_extend_16(imm), 1, 2`; `NOP` for `rd = x0` (R503). -/
def execRvLhu (rd rs1 : BitVec 5) (imm : BitVec 12) (s : State) : Host.Outcome State Fault Refusal :=
  runUnlessX0 rd (execLoadhuRv32 (immForm rd rs1 (signExtend16 imm) 2)) s

/-- `sb` becomes `STOREB_RV32 4*rs2, 4*rs1, sign_extend_16(imm12), 1, 2` (R504). -/
def execRvSb (rs1 rs2 : BitVec 5) (imm : BitVec 12) (s : State) : Host.Outcome State Fault Refusal :=
  execStorebRv32 (immForm rs2 rs1 (signExtend16 imm) 2) s

/-- `sh` becomes `STOREH_RV32 4*rs2, 4*rs1, sign_extend_16(imm12), 1, 2` (R505). -/
def execRvSh (rs1 rs2 : BitVec 5) (imm : BitVec 12) (s : State) : Host.Outcome State Fault Refusal :=
  execStorehRv32 (immForm rs2 rs1 (signExtend16 imm) 2) s

/-- `sw` becomes `STOREW_RV32 4*rs2, 4*rs1, sign_extend_16(imm12), 1, 2` (R506). -/
def execRvSw (rs1 rs2 : BitVec 5) (imm : BitVec 12) (s : State) : Host.Outcome State Fault Refusal :=
  execStorewRv32 (immForm rs2 rs1 (signExtend16 imm) 2) s

/-- `beq` becomes `BEQ_RV32 4*rs1, 4*rs2, fe(sext_13(off)), 1, 1` (R507). -/
def execRvBeq (rs1 rs2 : BitVec 5) (imm : BitVec 12) (s : State) : Host.Outcome State Fault Refusal :=
  execBeqRv32 (branchForm rs1 rs2 (itofB s.cfg.p imm) 1) s

/-- `bne` becomes `BNE_RV32 4*rs1, 4*rs2, fe(sext_13(off)), 1, 1` (R508). -/
def execRvBne (rs1 rs2 : BitVec 5) (imm : BitVec 12) (s : State) : Host.Outcome State Fault Refusal :=
  execBneRv32 (branchForm rs1 rs2 (itofB s.cfg.p imm) 1) s

/-- `blt` becomes `BLT_RV32 4*rs1, 4*rs2, fe(sext_13(off)), 1, 1` (R509). -/
def execRvBlt (rs1 rs2 : BitVec 5) (imm : BitVec 12) (s : State) : Host.Outcome State Fault Refusal :=
  execBltRv32 (branchForm rs1 rs2 (itofB s.cfg.p imm) 1) s

/-- `bge` becomes `BGE_RV32 4*rs1, 4*rs2, fe(sext_13(off)), 1, 1` (R510). -/
def execRvBge (rs1 rs2 : BitVec 5) (imm : BitVec 12) (s : State) : Host.Outcome State Fault Refusal :=
  execBgeRv32 (branchForm rs1 rs2 (itofB s.cfg.p imm) 1) s

/-- `bltu` becomes `BLTU_RV32 4*rs1, 4*rs2, fe(sext_13(off)), 1, 1` (R511). -/
def execRvBltu (rs1 rs2 : BitVec 5) (imm : BitVec 12) (s : State) : Host.Outcome State Fault Refusal :=
  execBltuRv32 (branchForm rs1 rs2 (itofB s.cfg.p imm) 1) s

/-- `bgeu` becomes `BGEU_RV32 4*rs1, 4*rs2, fe(sext_13(off)), 1, 1` (R512). -/
def execRvBgeu (rs1 rs2 : BitVec 5) (imm : BitVec 12) (s : State) : Host.Outcome State Fault Refusal :=
  execBgeuRv32 (branchForm rs1 rs2 (itofB s.cfg.p imm) 1) s

/-- `jal` becomes `JAL_RV32 4*rd, 0, fe(sext_21(off)), 1, 0, f` (R513). -/
def execRvJal (rd : BitVec 5) (imm : BitVec 20) (s : State) : Host.Outcome State Fault Refusal :=
  execJalRv32 (jumpForm rd 0 (itofJ s.cfg.p imm) (writeEnable rd)) s

/-- `jalr` becomes `JALR_RV32 4*rd, 4*rs1, sign_extend_16(imm), 1, 0, f` (R514). -/
def execRvJalr (rd rs1 : BitVec 5) (imm : BitVec 12) (s : State) : Host.Outcome State Fault Refusal :=
  execJalrRv32 (jumpForm rd (ind rs1) (signExtend16 imm) (writeEnable rd)) s

/-- `lui` becomes `LUI_RV32 4*rd, 0, imm20, 1, 0, 1`; `NOP` for `rd = x0` (R515). -/
def execRvLui (rd : BitVec 5) (imm : BitVec 20) (s : State) : Host.Outcome State Fault Refusal :=
  runUnlessX0 rd (execLuiRv32 (jumpForm rd 0 imm.toNat 1)) s

/-- `auipc` becomes `AUIPC_RV32 4*rd, 0, imm20, 1`; `NOP` for `rd = x0` (R516). -/
def execRvAuipc (rd : BitVec 5) (imm : BitVec 20) (s : State) : Host.Outcome State Fault Refusal :=
  runUnlessX0 rd (execAuipcRv32 (jumpForm rd 0 imm.toNat 0)) s

/-- `mul` becomes `MUL_RV32 4*rd, 4*rs1, 4*rs2, 1`; `NOP` for `rd = x0` (R517). -/
def execRvMul (rd rs1 rs2 : BitVec 5) (s : State) : Host.Outcome State Fault Refusal :=
  runUnlessX0 rd (execMulRv32 (regForm rd rs1 rs2 0)) s

/-- `mulh` becomes `MULH_RV32 4*rd, 4*rs1, 4*rs2, 1`; `NOP` for `rd = x0` (R518). -/
def execRvMulh (rd rs1 rs2 : BitVec 5) (s : State) : Host.Outcome State Fault Refusal :=
  runUnlessX0 rd (execMulhRv32 (regForm rd rs1 rs2 0)) s

/-- `mulhsu` becomes `MULHSU_RV32 4*rd, 4*rs1, 4*rs2, 1`; `NOP` for `rd = x0` (R519). -/
def execRvMulhsu (rd rs1 rs2 : BitVec 5) (s : State) : Host.Outcome State Fault Refusal :=
  runUnlessX0 rd (execMulhsuRv32 (regForm rd rs1 rs2 0)) s

/-- `mulhu` becomes `MULHU_RV32 4*rd, 4*rs1, 4*rs2, 1`; `NOP` for `rd = x0` (R520). -/
def execRvMulhu (rd rs1 rs2 : BitVec 5) (s : State) : Host.Outcome State Fault Refusal :=
  runUnlessX0 rd (execMulhuRv32 (regForm rd rs1 rs2 0)) s

/-- `div` becomes `DIV_RV32 4*rd, 4*rs1, 4*rs2, 1`; `NOP` for `rd = x0` (R521). -/
def execRvDiv (rd rs1 rs2 : BitVec 5) (s : State) : Host.Outcome State Fault Refusal :=
  runUnlessX0 rd (execDivRv32 (regForm rd rs1 rs2 0)) s

/-- `divu` becomes `DIVU_RV32 4*rd, 4*rs1, 4*rs2, 1`; `NOP` for `rd = x0` (R522). -/
def execRvDivu (rd rs1 rs2 : BitVec 5) (s : State) : Host.Outcome State Fault Refusal :=
  runUnlessX0 rd (execDivuRv32 (regForm rd rs1 rs2 0)) s

/-- `rem` becomes `REM_RV32 4*rd, 4*rs1, 4*rs2, 1`; `NOP` for `rd = x0` (R523). -/
def execRvRem (rd rs1 rs2 : BitVec 5) (s : State) : Host.Outcome State Fault Refusal :=
  runUnlessX0 rd (execRemRv32 (regForm rd rs1 rs2 0)) s

/-- `remu` becomes `REMU_RV32 4*rd, 4*rs1, 4*rs2, 1`; `NOP` for `rd = x0` (R524). -/
def execRvRemu (rd rs1 rs2 : BitVec 5) (s : State) : Host.Outcome State Fault Refusal :=
  runUnlessX0 rd (execRemuRv32 (regForm rd rs1 rs2 0)) s

/-- `terminate` becomes `TERMINATE 0, 0, code` (R529). -/
def execRvTerminate (code : BitVec 12) (s : State) : Host.Outcome State Fault Refusal :=
  execTerminate (exitForm code) s

/-- `hintstorew` becomes `HINTSTOREW_RV32 0, 4*rd, sign_extend_16(imm), 1, 2` (R530). -/
def execRvHintstorew (rd : BitVec 5) (imm : BitVec 12) (s : State) : Host.Outcome State Fault Refusal :=
  execHintstorewRv32 (baseForm 0 (ind rd) (signExtend16 imm) 2) s

/-- `reveal` becomes `STOREW_RV32 4*rs1, 4*rd, sign_extend_16(imm), 1, 3` (R531). -/
def execRvReveal (rs1 rd : BitVec 5) (imm : BitVec 12) (s : State) : Host.Outcome State Fault Refusal :=
  execRevealRv32 (baseForm (ind rs1) (ind rd) (signExtend16 imm) 3) s

/-- `hintinput` becomes `PHANTOM 0, 0, 3` (R532). -/
def execRvHintinput (s : State) : Host.Outcome State Fault Refusal :=
  execPhantomHintInput noPhantom s

/-- `keccak256` becomes `KECCAK256_RV32 4*rd, 4*rs1, 4*rs2, 1, 2` (R533). -/
def execRvKeccak256 (rd rs1 rs2 : BitVec 5) (s : State) : Host.Outcome State Fault Refusal :=
  execKeccak256Rv32 (regForm rd rs1 rs2 2) s

/-- `add256` becomes `ADD256_RV32 4*rd, 4*rs1, 4*rs2, 1, 2` (R534). -/
def execRvAdd256 (rd rs1 rs2 : BitVec 5) (s : State) : Host.Outcome State Fault Refusal :=
  execAdd256Rv32 (regForm rd rs1 rs2 2) s

/-- `sub256` becomes `SUB256_RV32 4*rd, 4*rs1, 4*rs2, 1, 2` (R535). -/
def execRvSub256 (rd rs1 rs2 : BitVec 5) (s : State) : Host.Outcome State Fault Refusal :=
  execSub256Rv32 (regForm rd rs1 rs2 2) s

/-- `xor256` becomes `XOR256_RV32 4*rd, 4*rs1, 4*rs2, 1, 2` (R536). -/
def execRvXor256 (rd rs1 rs2 : BitVec 5) (s : State) : Host.Outcome State Fault Refusal :=
  execXor256Rv32 (regForm rd rs1 rs2 2) s

/-- `or256` becomes `OR256_RV32 4*rd, 4*rs1, 4*rs2, 1, 2` (R537). -/
def execRvOr256 (rd rs1 rs2 : BitVec 5) (s : State) : Host.Outcome State Fault Refusal :=
  execOr256Rv32 (regForm rd rs1 rs2 2) s

/-- `and256` becomes `AND256_RV32 4*rd, 4*rs1, 4*rs2, 1, 2` (R538). -/
def execRvAnd256 (rd rs1 rs2 : BitVec 5) (s : State) : Host.Outcome State Fault Refusal :=
  execAnd256Rv32 (regForm rd rs1 rs2 2) s

/-- `sll256` becomes `SLL256_RV32 4*rd, 4*rs1, 4*rs2, 1, 2` (R539). -/
def execRvSll256 (rd rs1 rs2 : BitVec 5) (s : State) : Host.Outcome State Fault Refusal :=
  execSll256Rv32 (regForm rd rs1 rs2 2) s

/-- `srl256` becomes `SRL256_RV32 4*rd, 4*rs1, 4*rs2, 1, 2` (R540). -/
def execRvSrl256 (rd rs1 rs2 : BitVec 5) (s : State) : Host.Outcome State Fault Refusal :=
  execSrl256Rv32 (regForm rd rs1 rs2 2) s

/-- `sra256` becomes `SRA256_RV32 4*rd, 4*rs1, 4*rs2, 1, 2` (R541). -/
def execRvSra256 (rd rs1 rs2 : BitVec 5) (s : State) : Host.Outcome State Fault Refusal :=
  execSra256Rv32 (regForm rd rs1 rs2 2) s

/-- `slt256` becomes `SLT256_RV32 4*rd, 4*rs1, 4*rs2, 1, 2` (R542). -/
def execRvSlt256 (rd rs1 rs2 : BitVec 5) (s : State) : Host.Outcome State Fault Refusal :=
  execSlt256Rv32 (regForm rd rs1 rs2 2) s

/-- `sltu256` becomes `SLTU256_RV32 4*rd, 4*rs1, 4*rs2, 1, 2` (R543). -/
def execRvSltu256 (rd rs1 rs2 : BitVec 5) (s : State) : Host.Outcome State Fault Refusal :=
  execSltu256Rv32 (regForm rd rs1 rs2 2) s

/-- `beq256` becomes `BEQ256_RV32 4*rs1, 4*rs2, fe(imm), 1, 2` (R544). -/
def execRvBeq256 (rd rs1 rs2 : BitVec 5) (s : State) : Host.Outcome State Fault Refusal :=
  runBranch256 (branch256Word 10 rd rs1 rs2) (fun off => execBeq256Rv32 (branchForm rs1 rs2 (fe s.cfg.p off) 2)) s

/-- `bne256` becomes `BNE256_RV32 4*rs1, 4*rs2, fe(imm), 1, 2` (R545). -/
def execRvBne256 (rd rs1 rs2 : BitVec 5) (s : State) : Host.Outcome State Fault Refusal :=
  runBranch256 (branch256Word 11 rd rs1 rs2) (fun off => execBne256Rv32 (branchForm rs1 rs2 (fe s.cfg.p off) 2)) s

/-- `blt256` becomes `BLT256_RV32 4*rs1, 4*rs2, fe(imm), 1, 2` (R546). -/
def execRvBlt256 (rd rs1 rs2 : BitVec 5) (s : State) : Host.Outcome State Fault Refusal :=
  runBranch256 (branch256Word 12 rd rs1 rs2) (fun off => execBlt256Rv32 (branchForm rs1 rs2 (fe s.cfg.p off) 2)) s

/-- `bge256` becomes `BGE256_RV32 4*rs1, 4*rs2, fe(imm), 1, 2` (R547). -/
def execRvBge256 (rd rs1 rs2 : BitVec 5) (s : State) : Host.Outcome State Fault Refusal :=
  runBranch256 (branch256Word 13 rd rs1 rs2) (fun off => execBge256Rv32 (branchForm rs1 rs2 (fe s.cfg.p off) 2)) s

/-- `bltu256` becomes `BLTU256_RV32 4*rs1, 4*rs2, fe(imm), 1, 2` (R548). -/
def execRvBltu256 (rd rs1 rs2 : BitVec 5) (s : State) : Host.Outcome State Fault Refusal :=
  runBranch256 (branch256Word 14 rd rs1 rs2) (fun off => execBltu256Rv32 (branchForm rs1 rs2 (fe s.cfg.p off) 2)) s

/-- `bgeu256` becomes `BGEU256_RV32 4*rs1, 4*rs2, fe(imm), 1, 2` (R549). -/
def execRvBgeu256 (rd rs1 rs2 : BitVec 5) (s : State) : Host.Outcome State Fault Refusal :=
  runBranch256 (branch256Word 15 rd rs1 rs2) (fun off => execBgeu256Rv32 (branchForm rs1 rs2 (fe s.cfg.p off) 2)) s

/-- `mul256` becomes `MUL256_RV32 4*rd, 4*rs1, 4*rs2, 1, 2` (R550). -/
def execRvMul256 (rd rs1 rs2 : BitVec 5) (s : State) : Host.Outcome State Fault Refusal :=
  execMul256Rv32 (regForm rd rs1 rs2 2) s

/-- `addmod<N>` becomes `ADDMOD_RV32<N> 4*rd, 4*rs1, 4*rs2, 1, 2` (R551). -/
def execRvAddmod (idx : BitVec 4) (rd rs1 rs2 : BitVec 5) (s : State) : Host.Outcome State Fault Refusal :=
  runModulus idx (fun n => execAddmodRv32 n (regForm rd rs1 rs2 2)) s

/-- `submod<N>` becomes `SUBMOD_RV32<N> 4*rd, 4*rs1, 4*rs2, 1, 2` (R552). -/
def execRvSubmod (idx : BitVec 4) (rd rs1 rs2 : BitVec 5) (s : State) : Host.Outcome State Fault Refusal :=
  runModulus idx (fun n => execSubmodRv32 n (regForm rd rs1 rs2 2)) s

/-- `mulmod<N>` becomes `MULMOD_RV32<N> 4*rd, 4*rs1, 4*rs2, 1, 2` (R553). -/
def execRvMulmod (idx : BitVec 4) (rd rs1 rs2 : BitVec 5) (s : State) : Host.Outcome State Fault Refusal :=
  runModulus idx (fun n => execMulmodRv32 n (regForm rd rs1 rs2 2)) s

/-- `divmod<N>` becomes `DIVMOD_RV32<N> 4*rd, 4*rs1, 4*rs2, 1, 2` (R554). -/
def execRvDivmod (idx : BitVec 4) (rd rs1 rs2 : BitVec 5) (s : State) : Host.Outcome State Fault Refusal :=
  runModulus idx (fun n => execDivmodRv32 n (regForm rd rs1 rs2 2)) s

/-- `iseqmod<N>` becomes `ISEQMOD_RV32<N> 4*rd, 4*rs1, 4*rs2, 1, 2`; refused for `rd = x0` (R555). -/
def execRvIseqmod (idx : BitVec 4) (rd rs1 rs2 : BitVec 5) (s : State) : Host.Outcome State Fault Refusal :=
  if rd = 0 then .refused .iseqmodIntoX0 else runModulus idx (fun n => execIseqmodRv32 n (regForm rd rs1 rs2 2)) s

/-- `sw_add_ne<C>` becomes `SW_ADD_NE<C> 4*rd, 4*rs1, 4*rs2, 1, 2` (R556). -/
def execRvSwAddNe (idx : BitVec 4) (rd rs1 rs2 : BitVec 5) (s : State) : Host.Outcome State Fault Refusal :=
  runCurve idx (fun n => execSwAddNe n (regForm rd rs1 rs2 2)) s

/-- `sw_double<C>` becomes `SW_DOUBLE<C> 4*rd, 4*rs1, 0, 1, 2` (R557). -/
def execRvSwDouble (idx : BitVec 4) (rd rs1 : BitVec 5) (s : State) : Host.Outcome State Fault Refusal :=
  runCurve idx (fun n => execSwDouble n (baseForm (ind rd) (ind rs1) 0 2)) s

end Sys2Proof.Machine
end

