-- ==== Sys2Proof/Machine/Dispatch.lean ====
section
/-! DEFINITION. One arm per instruction: the meaning of each constructor of `Instr`. -/

namespace Sys2Proof.Machine

def exec (i : Instr) (s : State) : Host.Outcome State Fault Refusal :=
  match i with
  | .terminate o => Sys2Proof.Machine.execTerminate o s
  | .phantom o => Sys2Proof.Machine.execPhantom o s
  | .phantomNop q => Sys2Proof.Machine.execPhantomNop q s
  | .phantomDebugPanic q => Sys2Proof.Machine.execPhantomDebugPanic q s
  | .phantomPrintF q => Sys2Proof.Machine.execPhantomPrintF q s
  | .phantomHintInput q => Sys2Proof.Machine.execPhantomHintInput q s
  | .phantomHintBits q => Sys2Proof.Machine.execPhantomHintBits q s
  | .phantomCtStart q => Sys2Proof.Machine.execPhantomCtStart q s
  | .phantomCtEnd q => Sys2Proof.Machine.execPhantomCtEnd q s
  | .phantomHintFinalExpBn254 q => Sys2Proof.Machine.execPhantomHintFinalExpBn254 q s
  | .phantomHintFinalExpBls12381 q => Sys2Proof.Machine.execPhantomHintFinalExpBls12381 q s
  | .addRv32 o => Sys2Proof.Machine.execAddRv32 o s
  | .subRv32 o => Sys2Proof.Machine.execSubRv32 o s
  | .xorRv32 o => Sys2Proof.Machine.execXorRv32 o s
  | .orRv32 o => Sys2Proof.Machine.execOrRv32 o s
  | .andRv32 o => Sys2Proof.Machine.execAndRv32 o s
  | .sllRv32 o => Sys2Proof.Machine.execSllRv32 o s
  | .srlRv32 o => Sys2Proof.Machine.execSrlRv32 o s
  | .sraRv32 o => Sys2Proof.Machine.execSraRv32 o s
  | .sltRv32 o => Sys2Proof.Machine.execSltRv32 o s
  | .sltuRv32 o => Sys2Proof.Machine.execSltuRv32 o s
  | .loadbRv32 o => Sys2Proof.Machine.execLoadbRv32 o s
  | .loadhRv32 o => Sys2Proof.Machine.execLoadhRv32 o s
  | .loadwRv32 o => Sys2Proof.Machine.execLoadwRv32 o s
  | .loadbuRv32 o => Sys2Proof.Machine.execLoadbuRv32 o s
  | .loadhuRv32 o => Sys2Proof.Machine.execLoadhuRv32 o s
  | .storebRv32 o => Sys2Proof.Machine.execStorebRv32 o s
  | .storehRv32 o => Sys2Proof.Machine.execStorehRv32 o s
  | .storewRv32 o => Sys2Proof.Machine.execStorewRv32 o s
  | .beqRv32 o => Sys2Proof.Machine.execBeqRv32 o s
  | .bneRv32 o => Sys2Proof.Machine.execBneRv32 o s
  | .bltRv32 o => Sys2Proof.Machine.execBltRv32 o s
  | .bgeRv32 o => Sys2Proof.Machine.execBgeRv32 o s
  | .bltuRv32 o => Sys2Proof.Machine.execBltuRv32 o s
  | .bgeuRv32 o => Sys2Proof.Machine.execBgeuRv32 o s
  | .jalRv32 o => Sys2Proof.Machine.execJalRv32 o s
  | .jalrRv32 o => Sys2Proof.Machine.execJalrRv32 o s
  | .luiRv32 o => Sys2Proof.Machine.execLuiRv32 o s
  | .auipcRv32 o => Sys2Proof.Machine.execAuipcRv32 o s
  | .mulRv32 o => Sys2Proof.Machine.execMulRv32 o s
  | .mulhRv32 o => Sys2Proof.Machine.execMulhRv32 o s
  | .mulhsuRv32 o => Sys2Proof.Machine.execMulhsuRv32 o s
  | .mulhuRv32 o => Sys2Proof.Machine.execMulhuRv32 o s
  | .divRv32 o => Sys2Proof.Machine.execDivRv32 o s
  | .divuRv32 o => Sys2Proof.Machine.execDivuRv32 o s
  | .remRv32 o => Sys2Proof.Machine.execRemRv32 o s
  | .remuRv32 o => Sys2Proof.Machine.execRemuRv32 o s
  | .hintstorewRv32 o => Sys2Proof.Machine.execHintstorewRv32 o s
  | .revealRv32 o => Sys2Proof.Machine.execRevealRv32 o s
  | .keccak256Rv32 o => Sys2Proof.Machine.execKeccak256Rv32 o s
  | .add256Rv32 o => Sys2Proof.Machine.execAdd256Rv32 o s
  | .sub256Rv32 o => Sys2Proof.Machine.execSub256Rv32 o s
  | .xor256Rv32 o => Sys2Proof.Machine.execXor256Rv32 o s
  | .or256Rv32 o => Sys2Proof.Machine.execOr256Rv32 o s
  | .and256Rv32 o => Sys2Proof.Machine.execAnd256Rv32 o s
  | .sll256Rv32 o => Sys2Proof.Machine.execSll256Rv32 o s
  | .srl256Rv32 o => Sys2Proof.Machine.execSrl256Rv32 o s
  | .sra256Rv32 o => Sys2Proof.Machine.execSra256Rv32 o s
  | .slt256Rv32 o => Sys2Proof.Machine.execSlt256Rv32 o s
  | .sltu256Rv32 o => Sys2Proof.Machine.execSltu256Rv32 o s
  | .beq256Rv32 o => Sys2Proof.Machine.execBeq256Rv32 o s
  | .bne256Rv32 o => Sys2Proof.Machine.execBne256Rv32 o s
  | .blt256Rv32 o => Sys2Proof.Machine.execBlt256Rv32 o s
  | .bge256Rv32 o => Sys2Proof.Machine.execBge256Rv32 o s
  | .bltu256Rv32 o => Sys2Proof.Machine.execBltu256Rv32 o s
  | .bgeu256Rv32 o => Sys2Proof.Machine.execBgeu256Rv32 o s
  | .mul256Rv32 o => Sys2Proof.Machine.execMul256Rv32 o s
  | .addmodRv32 n o => Sys2Proof.Machine.execAddmodRv32 n o s
  | .submodRv32 n o => Sys2Proof.Machine.execSubmodRv32 n o s
  | .mulmodRv32 n o => Sys2Proof.Machine.execMulmodRv32 n o s
  | .divmodRv32 n o => Sys2Proof.Machine.execDivmodRv32 n o s
  | .iseqmodRv32 n o => Sys2Proof.Machine.execIseqmodRv32 n o s
  | .swAddNe n o => Sys2Proof.Machine.execSwAddNe n o s
  | .swDouble n o => Sys2Proof.Machine.execSwDouble n o s
  | .load w o => Sys2Proof.Machine.execLoadNative w o s
  | .store w o => Sys2Proof.Machine.execStoreNative w o s
  | .load2 o => Sys2Proof.Machine.execLoad2 o s
  | .store2 o => Sys2Proof.Machine.execStore2 o s
  | .shintw o => Sys2Proof.Machine.execShintw o s
  | .jal o => Sys2Proof.Machine.execJal o s
  | .beq w o => Sys2Proof.Machine.execBeq w o s
  | .bne w o => Sys2Proof.Machine.execBne w o s
  | .publish o => Sys2Proof.Machine.execPublish o s
  | .castf o => Sys2Proof.Machine.execCastf o s
  | .addf o => Sys2Proof.Machine.execAddf o s
  | .subf o => Sys2Proof.Machine.execSubf o s
  | .mulf o => Sys2Proof.Machine.execMulf o s
  | .divf o => Sys2Proof.Machine.execDivf o s
  | .fe4add o => Sys2Proof.Machine.execFe4add o s
  | .fe4sub o => Sys2Proof.Machine.execFe4sub o s
  | .bbe4mul o => Sys2Proof.Machine.execBbe4mul o s
  | .bbe4div o => Sys2Proof.Machine.execBbe4div o s
  | .compressPoseidon2 o => Sys2Proof.Machine.execCompressPoseidon2 o s
  | .permPoseidon2 o => Sys2Proof.Machine.execPermPoseidon2 o s
  | .rvAdd rd rs1 rs2 => Sys2Proof.Machine.execRvAdd rd rs1 rs2 s
  | .rvSub rd rs1 rs2 => Sys2Proof.Machine.execRvSub rd rs1 rs2 s
  | .rvXor rd rs1 rs2 => Sys2Proof.Machine.execRvXor rd rs1 rs2 s
  | .rvOr rd rs1 rs2 => Sys2Proof.Machine.execRvOr rd rs1 rs2 s
  | .rvAnd rd rs1 rs2 => Sys2Proof.Machine.execRvAnd rd rs1 rs2 s
  | .rvSll rd rs1 rs2 => Sys2Proof.Machine.execRvSll rd rs1 rs2 s
  | .rvSrl rd rs1 rs2 => Sys2Proof.Machine.execRvSrl rd rs1 rs2 s
  | .rvSra rd rs1 rs2 => Sys2Proof.Machine.execRvSra rd rs1 rs2 s
  | .rvSlt rd rs1 rs2 => Sys2Proof.Machine.execRvSlt rd rs1 rs2 s
  | .rvSltu rd rs1 rs2 => Sys2Proof.Machine.execRvSltu rd rs1 rs2 s
  | .rvAddi rd rs1 imm => Sys2Proof.Machine.execRvAddi rd rs1 imm s
  | .rvXori rd rs1 imm => Sys2Proof.Machine.execRvXori rd rs1 imm s
  | .rvOri rd rs1 imm => Sys2Proof.Machine.execRvOri rd rs1 imm s
  | .rvAndi rd rs1 imm => Sys2Proof.Machine.execRvAndi rd rs1 imm s
  | .rvSlli rd rs1 shamt => Sys2Proof.Machine.execRvSlli rd rs1 shamt s
  | .rvSrli rd rs1 shamt => Sys2Proof.Machine.execRvSrli rd rs1 shamt s
  | .rvSrai rd rs1 shamt => Sys2Proof.Machine.execRvSrai rd rs1 shamt s
  | .rvSlti rd rs1 imm => Sys2Proof.Machine.execRvSlti rd rs1 imm s
  | .rvSltiu rd rs1 imm => Sys2Proof.Machine.execRvSltiu rd rs1 imm s
  | .rvLb rd rs1 imm => Sys2Proof.Machine.execRvLb rd rs1 imm s
  | .rvLh rd rs1 imm => Sys2Proof.Machine.execRvLh rd rs1 imm s
  | .rvLw rd rs1 imm => Sys2Proof.Machine.execRvLw rd rs1 imm s
  | .rvLbu rd rs1 imm => Sys2Proof.Machine.execRvLbu rd rs1 imm s
  | .rvLhu rd rs1 imm => Sys2Proof.Machine.execRvLhu rd rs1 imm s
  | .rvSb rs1 rs2 imm => Sys2Proof.Machine.execRvSb rs1 rs2 imm s
  | .rvSh rs1 rs2 imm => Sys2Proof.Machine.execRvSh rs1 rs2 imm s
  | .rvSw rs1 rs2 imm => Sys2Proof.Machine.execRvSw rs1 rs2 imm s
  | .rvBeq rs1 rs2 imm => Sys2Proof.Machine.execRvBeq rs1 rs2 imm s
  | .rvBne rs1 rs2 imm => Sys2Proof.Machine.execRvBne rs1 rs2 imm s
  | .rvBlt rs1 rs2 imm => Sys2Proof.Machine.execRvBlt rs1 rs2 imm s
  | .rvBge rs1 rs2 imm => Sys2Proof.Machine.execRvBge rs1 rs2 imm s
  | .rvBltu rs1 rs2 imm => Sys2Proof.Machine.execRvBltu rs1 rs2 imm s
  | .rvBgeu rs1 rs2 imm => Sys2Proof.Machine.execRvBgeu rs1 rs2 imm s
  | .rvJal rd imm => Sys2Proof.Machine.execRvJal rd imm s
  | .rvJalr rd rs1 imm => Sys2Proof.Machine.execRvJalr rd rs1 imm s
  | .rvLui rd imm => Sys2Proof.Machine.execRvLui rd imm s
  | .rvAuipc rd imm => Sys2Proof.Machine.execRvAuipc rd imm s
  | .rvMul rd rs1 rs2 => Sys2Proof.Machine.execRvMul rd rs1 rs2 s
  | .rvMulh rd rs1 rs2 => Sys2Proof.Machine.execRvMulh rd rs1 rs2 s
  | .rvMulhsu rd rs1 rs2 => Sys2Proof.Machine.execRvMulhsu rd rs1 rs2 s
  | .rvMulhu rd rs1 rs2 => Sys2Proof.Machine.execRvMulhu rd rs1 rs2 s
  | .rvDiv rd rs1 rs2 => Sys2Proof.Machine.execRvDiv rd rs1 rs2 s
  | .rvDivu rd rs1 rs2 => Sys2Proof.Machine.execRvDivu rd rs1 rs2 s
  | .rvRem rd rs1 rs2 => Sys2Proof.Machine.execRvRem rd rs1 rs2 s
  | .rvRemu rd rs1 rs2 => Sys2Proof.Machine.execRvRemu rd rs1 rs2 s
  | .rvTerminate code => Sys2Proof.Machine.execRvTerminate code s
  | .rvHintstorew rd imm => Sys2Proof.Machine.execRvHintstorew rd imm s
  | .rvReveal rs1 rd imm => Sys2Proof.Machine.execRvReveal rs1 rd imm s
  | .rvHintinput => Sys2Proof.Machine.execRvHintinput s
  | .rvKeccak256 rd rs1 rs2 => Sys2Proof.Machine.execRvKeccak256 rd rs1 rs2 s
  | .rvAdd256 rd rs1 rs2 => Sys2Proof.Machine.execRvAdd256 rd rs1 rs2 s
  | .rvSub256 rd rs1 rs2 => Sys2Proof.Machine.execRvSub256 rd rs1 rs2 s
  | .rvXor256 rd rs1 rs2 => Sys2Proof.Machine.execRvXor256 rd rs1 rs2 s
  | .rvOr256 rd rs1 rs2 => Sys2Proof.Machine.execRvOr256 rd rs1 rs2 s
  | .rvAnd256 rd rs1 rs2 => Sys2Proof.Machine.execRvAnd256 rd rs1 rs2 s
  | .rvSll256 rd rs1 rs2 => Sys2Proof.Machine.execRvSll256 rd rs1 rs2 s
  | .rvSrl256 rd rs1 rs2 => Sys2Proof.Machine.execRvSrl256 rd rs1 rs2 s
  | .rvSra256 rd rs1 rs2 => Sys2Proof.Machine.execRvSra256 rd rs1 rs2 s
  | .rvSlt256 rd rs1 rs2 => Sys2Proof.Machine.execRvSlt256 rd rs1 rs2 s
  | .rvSltu256 rd rs1 rs2 => Sys2Proof.Machine.execRvSltu256 rd rs1 rs2 s
  | .rvBeq256 rd rs1 rs2 => Sys2Proof.Machine.execRvBeq256 rd rs1 rs2 s
  | .rvBne256 rd rs1 rs2 => Sys2Proof.Machine.execRvBne256 rd rs1 rs2 s
  | .rvBlt256 rd rs1 rs2 => Sys2Proof.Machine.execRvBlt256 rd rs1 rs2 s
  | .rvBge256 rd rs1 rs2 => Sys2Proof.Machine.execRvBge256 rd rs1 rs2 s
  | .rvBltu256 rd rs1 rs2 => Sys2Proof.Machine.execRvBltu256 rd rs1 rs2 s
  | .rvBgeu256 rd rs1 rs2 => Sys2Proof.Machine.execRvBgeu256 rd rs1 rs2 s
  | .rvMul256 rd rs1 rs2 => Sys2Proof.Machine.execRvMul256 rd rs1 rs2 s
  | .rvAddmod idx rd rs1 rs2 => Sys2Proof.Machine.execRvAddmod idx rd rs1 rs2 s
  | .rvSubmod idx rd rs1 rs2 => Sys2Proof.Machine.execRvSubmod idx rd rs1 rs2 s
  | .rvMulmod idx rd rs1 rs2 => Sys2Proof.Machine.execRvMulmod idx rd rs1 rs2 s
  | .rvDivmod idx rd rs1 rs2 => Sys2Proof.Machine.execRvDivmod idx rd rs1 rs2 s
  | .rvIseqmod idx rd rs1 rs2 => Sys2Proof.Machine.execRvIseqmod idx rd rs1 rs2 s
  | .rvSwAddNe idx rd rs1 rs2 => Sys2Proof.Machine.execRvSwAddNe idx rd rs1 rs2 s
  | .rvSwDouble idx rd rs1 => Sys2Proof.Machine.execRvSwDouble idx rd rs1 s

end Sys2Proof.Machine
end

