-- ==== Sys2Proof/Machine/Fetch.lean ====
section
/-!
DEFINITION. The refusal of a program that the transpiler refuses (R476), the fetch of the next instruction (R58, R601 steps 1 and 2), and
the placing of one instruction where it is fetched.
-/

namespace Sys2Proof.Machine

/-- Why the transpiler refuses a ROM entry, none where it does not. An axVM tuple was never given to the transpiler (R476). -/
def entryRejection (cfg : Config) : RomEntry → Option Refusal
  | .tuple _ => none
  | .riscv w =>
    match decodeWord w with
    | none => some .noTranspilation
    | some i =>
      match transpile cfg i with
      | .ok _ => none
      | .error why => some why

/-- Why the transpiler refuses the program: "the binary is rejected before the run", wherever in it the word stands (R149, R154, R476).
Of several refused words the one at the lowest location names the reason (log 9). -/
def State.rejection (s : State) : Option Refusal := s.prog.findSome? (fun x => entryRejection s.cfg x.2)

/-- The instruction of a ROM entry: an opcode that is no mnemonic's is `UnknownOpcode` (R129), a word that stands for no instruction has
no transpilation (R154, R476). -/
def decodeEntry (cfg : Config) (e : RomEntry) : Host.Outcome Instr Fault Refusal :=
  match decode cfg e with
  | some i => .next i
  | none =>
    match e with
    | .tuple _ => .fault .unknownOpcode
    | .riscv _ => .refused .noTranspilation

/-- The instruction the next step runs. After the end of the run the machine takes no step (R56, R181; log 23); a program that the
transpiler refuses takes none at all (R476; log 9); the ROM is defined on locations in `[0, 2^30)` only (R58, R601). -/
def State.fetch (s : State) : Host.Outcome Instr Fault Refusal :=
  if s.status = .running then
    match s.rejection with
    | some why => .refused why
    | none =>
      if s.pc < 2 ^ 30 then
        match s.prog.get? s.pc with
        | some e => decodeEntry s.cfg e
        | none => .fault .fetchOutsideProgram
      else .fault .fetchOutsideProgram
  else .refused .runEnded

/-- The state with one ROM entry placed at `pc`, from outside the machine (log 8). -/
def State.withEntry (s : State) (e : RomEntry) : State := { s with prog := s.prog.insert s.pc e }

end Sys2Proof.Machine
end

