-- ==== Sys2Proof/Machine/Step.lean ====
section
/-!
DEFINITION. One step of the machine: fetch at `pc`, run the instruction (R102, R600).
-/

namespace Sys2Proof.Machine

/-- `Step(sigma)` (R600). -/
def step (s : State) : Host.Outcome State Fault Refusal :=
  match s.fetch with
  | .next i => exec i s
  | .fault cause => .fault cause
  | .refused why => .refused why

/-- The state with the instruction of the bits `w` stored where the next step fetches it (log 8, log 10). -/
def State.withFetchWord (s : State) (nbits w : Nat) : State := s.withEntry (entryOfBits nbits w)

end Sys2Proof.Machine
end

