-- ==== Sys2Proof/Safety.lean ====
section
/-!
DEFINITION. The terms the statements use: the invariant of a run, the premises on memory, what a register or a row of cells holds,
and what a completed instruction left as it was.
-/

namespace Sys2Proof.Machine

/-! ### Invariants -/

/-- What holds of every state of a run: the configuration is one the spec admits (R12), memory is in canonical form with field elements
in the cells of valid spaces only (R81, R83, R88), `pc` is a program location (R44), the queues hold field elements (R53, R54), the
public values are below their number (R436), the ROM is defined on program locations only (R58), and the run has not failed (R600). -/
structure State.Inv (s : State) : Prop where
  cfg : s.cfg.Wf
  canonical : s.mem.wf
  cells : ∀ x ∈ s.mem, ValidSpace s.cfg x.1.space ∧ x.1.ptr < 2 ^ s.cfg.pointerMaxBits ∧ x.2 < s.cfg.p
  pc : s.pc < 2 ^ 30
  inputs : ∀ v ∈ s.inputStream, ∀ x ∈ v, x < s.cfg.p
  hints : ∀ x ∈ s.hintStream, x < s.cfg.p
  publics : s.publicValues.wf ∧ ∀ x ∈ s.publicValues, x.1 < s.cfg.numPublicValues ∧ x.2 < s.cfg.p
  prog : s.prog.wf ∧ ∀ x ∈ s.prog, x.1 < 2 ^ 30
  log : ∀ v, HostEvent.printed v ∈ s.hostLog → v < s.cfg.p
  status : s.status = .running ∨ ∃ code < s.cfg.p, s.status = .terminated code

/-- The byte premise: "all memory cells in address spaces `1` and `2` are field elements that are in range `[0, 2^LIMB_BITS)`"
(R60, R647). -/
def State.BytePremise (s : State) : Prop := ∀ q, s.mem.read ⟨1, q⟩ < 256 ∧ s.mem.read ⟨2, q⟩ < 256

/-- "`[0:4]_1` starts with all zeros" (R475). -/
def State.X0Zero (s : State) : Prop := ∀ k < 4, s.mem.read ⟨1, k⟩ = 0

/-- The program is made of RISC-V words (R470). -/
def State.RiscvProgram (s : State) : Prop := ∀ x ∈ s.prog, ∃ w, x.2 = .riscv w

/-! ### Words without an instruction -/

/-- The fields `opcode`, `funct3`, `funct7` and `rs2` of the words that match no row of R144 to R148 and R152: the encodings R149 lists
as reserved, and the words of R154, those of any other opcode or function code. -/
abbrev UnassignedFields (opc f3 f7 rs2 : Nat) : Prop :=
  opc ∉ [0x33, 0x13, 0x03, 0x23, 0x63, 0x6F, 0x67, 0x37, 0x17, 0x0B, 0x2B] ∨
  (opc = 0x33 ∧ f7 ≠ 0 ∧ f7 ≠ 1 ∧ ¬ (f7 = 0x20 ∧ (f3 = 0 ∨ f3 = 5))) ∨
  (opc = 0x13 ∧ (f3 = 1 ∧ f7 ≠ 0 ∨ f3 = 5 ∧ f7 ≠ 0 ∧ f7 ≠ 0x20)) ∨
  (opc = 0x03 ∧ (f3 = 3 ∨ f3 = 6 ∨ f3 = 7)) ∨
  (opc = 0x23 ∧ 2 < f3) ∨
  (opc = 0x63 ∧ (f3 = 2 ∨ f3 = 3)) ∨
  (opc = 0x67 ∧ f3 ≠ 0) ∨
  (opc = 0x0B ∧ (f3 = 3 ∧ ¬ (f7 = 0 ∧ rs2 = 0) ∨ f3 = 4 ∧ f7 ≠ 0 ∨ f3 = 5 ∧ 0x10 < f7 ∨ 5 < f3)) ∨
  (opc = 0x2B ∧ (f3 = 0 ∧ 4 < f7 % 8 ∨ f3 = 1 ∧ (1 < f7 % 8 ∨ f7 % 8 = 1 ∧ rs2 ≠ 0) ∨ 1 < f3))

/-- The words that stand for no instruction (R149, R154). -/
abbrev UnassignedWord (w : Word) : Prop :=
  UnassignedFields (w.toNat % 2 ^ 7) (w.toNat / 2 ^ 12 % 2 ^ 3) (w.toNat / 2 ^ 25) (w.toNat / 2 ^ 20 % 2 ^ 5)

/-! ### What memory holds -/

/-- Byte `k` of a number, least significant first (R24, R92). -/
abbrev byteOf (v k : Nat) : Nat := v / 256 ^ k % 256

/-- The instruction is enabled, the configuration is admissible, and the next location is in the program range (R12, R44, R129). -/
abbrev State.Ready (s : State) (op : Op) : Prop := s.cfg.Wf ∧ opEnabled s.cfg op = true ∧ s.pc + 4 < 2 ^ 30

/-- `n` cells from pointer `q` upwards exist (R88). -/
abbrev State.Fits (s : State) (q n : Nat) : Prop := q + n ≤ 2 ^ s.cfg.pointerMaxBits

/-- A pointer at which a register block may be accessed (R89). -/
abbrev State.RegPtr (s : State) (q : Nat) : Prop := q % 4 = 0 ∧ s.Fits q 4

/-- The register at pointer `q` holds `x` (R26, R46). -/
abbrev State.Holds (s : State) (q : Nat) (x : Word) : Prop :=
  s.RegPtr q ∧ ∀ k < 4, s.mem.read ⟨1, q + k⟩ = byteOf x.toNat k

/-- The `n` cells from pointer `q` upwards in a space hold the bytes of `v` (R24, R92). -/
abbrev State.HoldsBytes (s : State) (sp q n v : Nat) : Prop := v < 256 ^ n ∧ ∀ k < n, s.mem.read ⟨sp, q + k⟩ = byteOf v k

/-- The register at pointer `r` holds a pointer `q`, aligned to `b`, to `n` cells that exist (R351, R391). -/
abbrev State.PointsTo (s : State) (r : Nat) (q n b : Nat) : Prop :=
  q % b = 0 ∧ s.Fits q n ∧ s.Holds r (BitVec.ofNat 32 q) ∧ q < 2 ^ 31

/-- The 32 RISC-V registers hold `x` (R46). -/
abbrev State.Registers (s : State) (x : BitVec 5 → Word) : Prop :=
  s.Fits 0 128 ∧ ∀ r : BitVec 5, ∀ k < 4, s.mem.read ⟨1, 4 * r.toNat + k⟩ = byteOf (x r).toNat k

/-! ### What an instruction did -/

/-- The instruction set `pc` to `c`, wrote `f 0`, `f 1`, … to the `n` cells from pointer `q` upwards in space `sp`, and left every other
cell and every other component of the state as it was. -/
structure Wrote (s t : State) (c : Nat) (sp q n : Nat) (f : Nat → Nat) : Prop where
  rest : t = { s with pc := c, mem := t.mem }
  row : ∀ k < n, t.mem.read ⟨sp, q + k⟩ = f k
  frame : ∀ j : Loc, ¬ (j.space = sp ∧ q ≤ j.ptr ∧ j.ptr < q + n) → t.mem.read j = s.mem.read j

/-! ### The RV32IM register instructions (R480 to R503, R515 to R524) -/

/-- The register an RV32IM instruction without memory access writes and the value it gets, where the registers hold `x`, with the
mnemonic it runs as: the RISC-V reading of the instruction (R480 to R498, R515 to R524). -/
def registerResult (sign : DivRemSign) (pc : Nat) (x : BitVec 5 → Word) : Instr → Option (Op × BitVec 5 × Word)
  | .rvAdd rd a b => some (.addRv32, rd, x a + x b)
  | .rvSub rd a b => some (.subRv32, rd, x a - x b)
  | .rvXor rd a b => some (.xorRv32, rd, x a ^^^ x b)
  | .rvOr rd a b => some (.orRv32, rd, x a ||| x b)
  | .rvAnd rd a b => some (.andRv32, rd, x a &&& x b)
  | .rvSll rd a b => some (.sllRv32, rd, x a <<< ((x b).toNat % 32))
  | .rvSrl rd a b => some (.srlRv32, rd, x a >>> ((x b).toNat % 32))
  | .rvSra rd a b => some (.sraRv32, rd, (x a).sshiftRight ((x b).toNat % 32))
  | .rvSlt rd a b => some (.sltRv32, rd, if (x a).toInt < (x b).toInt then 1 else 0)
  | .rvSltu rd a b => some (.sltuRv32, rd, if (x a).toNat < (x b).toNat then 1 else 0)
  | .rvAddi rd a imm => some (.addRv32, rd, x a + imm.signExtend 32)
  | .rvXori rd a imm => some (.xorRv32, rd, x a ^^^ imm.signExtend 32)
  | .rvOri rd a imm => some (.orRv32, rd, x a ||| imm.signExtend 32)
  | .rvAndi rd a imm => some (.andRv32, rd, x a &&& imm.signExtend 32)
  | .rvSlli rd a shamt => some (.sllRv32, rd, x a <<< shamt.toNat)
  | .rvSrli rd a shamt => some (.srlRv32, rd, x a >>> shamt.toNat)
  | .rvSrai rd a shamt => some (.sraRv32, rd, (x a).sshiftRight shamt.toNat)
  | .rvSlti rd a imm => some (.sltRv32, rd, if (x a).toInt < imm.toInt then 1 else 0)
  | .rvSltiu rd a imm => some (.sltuRv32, rd, if (x a).toNat < (imm.signExtend 32).toNat then 1 else 0)
  | .rvLui rd imm => some (.luiRv32, rd, imm ++ (0 : BitVec 12))
  | .rvAuipc rd imm => some (.auipcRv32, rd, BitVec.ofNat 32 pc + (imm ++ (0 : BitVec 12)))
  | .rvMul rd a b => some (.mulRv32, rd, x a * x b)
  | .rvMulh rd a b => some (.mulhRv32, rd, BitVec.ofInt 32 ((x a).toInt * (x b).toInt / 2 ^ 32))
  | .rvMulhsu rd a b => some (.mulhsuRv32, rd, BitVec.ofInt 32 ((x a).toInt * (x b).toNat / 2 ^ 32))
  | .rvMulhu rd a b => some (.mulhuRv32, rd, BitVec.ofNat 32 ((x a).toNat * (x b).toNat / 2 ^ 32))
  | .rvDiv rd a b => some (.divRv32, rd, if x b = 0 then -1 else BitVec.ofInt 32 (signedDivRem sign (x a).toInt (x b).toInt).1)
  | .rvDivu rd a b => some (.divuRv32, rd, if x b = 0 then -1 else x a / x b)
  | .rvRem rd a b => some (.remRv32, rd, if x b = 0 then x a else BitVec.ofInt 32 (signedDivRem sign (x a).toInt (x b).toInt).2)
  | .rvRemu rd a b => some (.remuRv32, rd, if x b = 0 then x a else x a % x b)
  | _ => none

end Sys2Proof.Machine
end

