-- ==== Sys2Proof/Certificates/Slice0/Obligations.lean ====
section
/-!
DEFINITION. The statements for the provers. Each docstring names the rules of the spec a statement formalises; `OBLIGATIONS.json` holds
their tiers.

In the statements about a result, the operands the spec fixes are written out in the tuple, the values of the other operands are
free, and every premise is about the state and the operands alone.
-/

open Sys2Proof Sys2Proof.Machine

/-! ### Encoding -/

/-- Words and tuples written out from the spec's encodings decode to the instructions they stand for (R144 to R148, R152, R153, R120; the
opcode numbers are the model's choice, log 4; the RV32IM words are PRESUMED from RISC-V, log 24). -/
def Obligations.WrittenOutWordsDecode : Prop :=
  decodeWord 0x007302B3#32 = some (.rvAdd 5 6 7) ∧ decodeWord 0xFFD30293#32 = some (.rvAddi 5 6 0xFFD) ∧
  decodeWord 0xFFC30283#32 = some (.rvLb 5 6 0xFFC) ∧ decodeWord 0x00732423#32 = some (.rvSw 6 7 8) ∧
  decodeWord 0xFE730CE3#32 = some (.rvBeq 6 7 0xFFC) ∧ decodeWord 0xFF1FF06F#32 = some (.rvJal 0 0xFFFF8) ∧
  decodeWord 0x123452B7#32 = some (.rvLui 5 0x12345) ∧ decodeWord 0x027302B3#32 = some (.rvMul 5 6 7) ∧
  decodeWord 0x0010000B#32 = some (.rvTerminate 1) ∧ decodeWord 0x0005200B#32 = some (.rvReveal 10 0 0) ∧
  decodeWord 0x00C5C50B#32 = some (.rvKeccak256 10 11 12) ∧ decodeWord 0x20C5D50B#32 = some (.rvMul256 10 11 12) ∧
  decodeWord 0x18C5852B#32 = some (.rvIseqmod 1 10 11 12) ∧ decodeWord 0x0205952B#32 = some (.rvSwDouble 0 10 11) ∧
  decode Config.launch (.tuple ⟨1, ⟨0, 0, 3, 0, 0, 0, 0⟩⟩) = some (.phantomHintInput ⟨0, 0, 0, 0, 0, 0, 0⟩) ∧
  decode Config.launch (.tuple ⟨2, ⟨20, 24, 28, 1, 1, 0, 0⟩⟩) = some (.addRv32 ⟨20, 24, 28, 1, 1, 0, 0⟩)

/-- Decoding the ROM entry of an instruction gives the instruction back, for every instruction that a ROM entry denotes: all 168
constructors, with every operand at every value the encoding admits (R120, R122, R130, R141 to R153, R190; which constructor stands for
a shared opcode is the model's choice, log 20). -/
def Obligations.DecodeOfEncodeIsTheInstruction : Prop :=
  ∀ (cfg : Config) (i : Instr), cfg.Wf → i.encodable cfg = true → (∀ op, i.op = some op → op ∈ cfg.opcodes.map (·.2)) →
    ∃ e, encode cfg i = some e ∧ decode cfg e = some i

/-- A RISC-V word that decodes is the word of its instruction, up to the register fields of `terminate`, `hintstorew` and `hintinput`,
which are ignored (R141 to R153; D38; RV32IM words PRESUMED, log 24). -/
def Obligations.EncodeOfDecodeIsTheWord : Prop :=
  ∀ (w : Word) (i : Instr), decodeWord w = some i → ∃ w', encodeWord i = some w' ∧
    let care : Word :=
      if w &&& 0x0000707F#32 = 0x0000000B#32 then 0xFFF0707F#32
      else if w &&& 0x0000707F#32 = 0x0000100B#32 then 0xFFF07FFF#32
      else if w &&& 0x0000707F#32 = 0x0000300B#32 then 0xFFF0707F#32
      else 0xFFFFFFFF#32
    w' &&& care = w &&& care

/-- Exactly the words that match no row of R144 to R148 and R152 stand for no instruction: the reserved custom encodings and every word
of another opcode or function code. A program that holds one, wherever, takes no step (R149, R154, R476; the codes of RV32IM are
PRESUMED, log 24). -/
def Obligations.ReservedWordsAreRefused : Prop :=
  ∀ w : Word, (decodeWord w = none ↔ UnassignedWord w) ∧
    (UnassignedWord w → ∀ (s : State) (k : Nat), s.status = .running → (k, .riscv w) ∈ s.prog → ∃ why, step s = .refused why)

/-! ### The step -/

/-- A step of a program that the transpiler does not refuse runs the instruction that the ROM entry at `pc` decodes to; nothing is added
around it (R58, R102, R476, R601). -/
def Obligations.StepRunsTheDecodedInstruction : Prop :=
  ∀ (s : State) (e : RomEntry) (i : Instr), s.status = .running → s.rejection = none → s.pc < 2 ^ 30 → s.prog.get? s.pc = some e →
    decode s.cfg e = some i → step s = exec i s

/-- Where a step fetches nothing: after the end of the run (R56, R181; the refusal is the model's choice, log 23), in a program that
the transpiler refuses (R476), outside the program (R58), and at an opcode that is no mnemonic's (R129). -/
def Obligations.StepStopsWithoutAnInstruction : Prop :=
  ∀ s : State,
    (s.status ≠ .running → step s = .refused .runEnded) ∧
    (∀ why, s.status = .running → s.rejection = some why → step s = .refused why) ∧
    (s.status = .running → s.rejection = none → (2 ^ 30 ≤ s.pc ∨ s.prog.get? s.pc = none) →
      step s = .fault .fetchOutsideProgram) ∧
    (∀ u : Tuple, s.status = .running → s.rejection = none → s.pc < 2 ^ 30 → s.prog.get? s.pc = some (.tuple u) →
      (∀ op, (u.opcode % s.cfg.p, op) ∉ s.cfg.opcodes) → step s = .fault .unknownOpcode)

/-- A step after `withFetchWord` runs the instruction of the given bits, in the state with that ROM entry (the model's loading of one
instruction, logs 8 and 10). -/
def Obligations.StepAfterLoadingRunsTheTableWord : Prop :=
  ∀ (s : State) (nbits w : Nat) (i j : Instr), s.status = .running → s.rejection = none → s.pc < 2 ^ 30 → s.cfg = Config.launch →
    decodeTableWord nbits w = some i → transpile s.cfg i = .ok j →
      step (s.withFetchWord nbits w) = exec i (s.withFetchWord nbits w) ∧
      (s.withFetchWord nbits w) = { s with prog := (s.withFetchWord nbits w).prog } ∧
      ∀ k, k ≠ s.pc → (s.withFetchWord nbits w).prog.get? k = s.prog.get? k

/-! ### Launch and invariants -/

/-- The launch state: running (R62), `x0` zero (R63), the hint stream empty (R66) and no public value set (R67). -/
def Obligations.LaunchStateIsAsStated : Prop :=
  State.reset.status = .running ∧ State.reset.X0Zero ∧ State.reset.hintStream = [] ∧
    ∀ k, State.reset.publicValues.get? k = none

/-- The launch state meets the invariant of a run and the byte premise (R12, R44, R60, R81; the launch values are
the model's choice, logs 3 to 7). -/
def Obligations.LaunchStateMeetsTheInvariant : Prop := State.reset.Inv ∧ State.reset.BytePremise

/-- Every step keeps the invariant of a run: memory stays canonical and holds field elements in valid cells, `pc` stays a program
location, the queues hold field elements, and the run does not fail without a fault (R13, R41, R44, R53 to R58, R81, R88). -/
def Obligations.StepKeepsTheInvariant : Prop := ∀ s t : State, s.Inv → step s = .next t → t.Inv

/-- No instruction other than a native one breaks the byte premise: the `_RV32` instructions, the RISC-V words and the system
instructions keep it (R60, R647). -/
def Obligations.OnlyNativeInstructionsBreakTheBytePremise : Prop :=
  ∀ (i : Instr) (s t : State),
    (∀ op, i.op = some op → op.cls ≠ .nativeBase ∧ op.cls ≠ .nativeField ∧ op.cls ≠ .nativeExt ∧ op.cls ≠ .nativeHash) →
    s.BytePremise → exec i s = .next t → t.BytePremise

/-- "No instruction in the program writes to `[0:4]_1`": in a program made of RISC-V words every step leaves `x0` as it was, and the
program stays one of RISC-V words (R475). -/
def Obligations.RiscvProgramsNeverWriteX0 : Prop :=
  ∀ s t : State, s.RiscvProgram → step s = .next t → t.RiscvProgram ∧ ∀ k < 4, t.mem.read ⟨1, k⟩ = s.mem.read ⟨1, k⟩

/-- No instruction writes the ROM, and the configuration is fixed for a run (R58, R105, R642; that
both are components of the state is the model's choice, log 2). -/
def Obligations.ProgramAndConfigurationAreFixed : Prop :=
  ∀ (i : Instr) (s t : State), exec i s = .next t → t.prog = s.prog ∧ t.cfg = s.cfg

/-- Only `TERMINATE` ends a run, and then nothing but the status changes (R56, R180, R181). -/
def Obligations.OnlyTerminateEndsTheRun : Prop :=
  ∀ (i : Instr) (s t : State), exec i s = .next t → t.status ≠ s.status →
    ((∃ o, i = .terminate o) ∨ ∃ code, i = .rvTerminate code) ∧ t = { s with status := t.status }

/-- Who changes the queues, the public values, the host's sinks and the count of free choices: each only by the instructions the rules
name, the sinks and the count only by growing, and a public value, once fixed, for good (R53 to R55, R57, R199, R392, R436; the event log and
the count are the model's, logs 12 and 22). -/
def Obligations.QueuesAndSinksChangeOnlyByTheirInstructions : Prop :=
  ∀ (i : Instr) (s t : State), exec i s = .next t →
    (t.inputStream ≠ s.inputStream → (∃ o, i = .phantom o) ∨ (∃ q, i = .phantomHintInput q) ∨ i = .rvHintinput) ∧
    (t.hintStream ≠ s.hintStream → (∃ o, i = .phantom o) ∨ (∃ q, i = .phantomHintInput q) ∨ i = .rvHintinput ∨
      (∃ q, i = .phantomHintBits q) ∨ (∃ o, i = .hintstorewRv32 o) ∨ (∃ rd imm, i = .rvHintstorew rd imm) ∨ ∃ o, i = .shintw o) ∧
    (t.publicValues ≠ s.publicValues → ∃ o, i = .publish o) ∧
    (∀ k v, s.publicValues.get? k = some v → t.publicValues.get? k = some v) ∧
    (t.hostLog ≠ s.hostLog → (∃ o, i = .phantom o) ∨ ∃ q, i ∈ [.phantomPrintF q, .phantomCtStart q, .phantomCtEnd q]) ∧
    (∃ l, t.hostLog = s.hostLog ++ l) ∧
    (t.draws ≠ s.draws →
      (∃ n o, i ∈ [.addmodRv32 n o, .submodRv32 n o, .mulmodRv32 n o, .divmodRv32 n o, .swAddNe n o, .swDouble n o]) ∨
      ∃ idx rd rs1 rs2, i ∈ [.rvAddmod idx rd rs1 rs2, .rvSubmod idx rd rs1 rs2, .rvMulmod idx rd rs1 rs2,
        .rvDivmod idx rd rs1 rs2, .rvSwAddNe idx rd rs1 rs2, .rvSwDouble idx rd rs1]) ∧
    s.draws ≤ t.draws

/-! ### Operand checks -/

/-- An enabled instruction whose operands are field elements outside its operand list or immediate form is refused before any memory
access, with `BadOperand` or `BadAddressSpace` (R125, R126, R601; which of the two is the model's choice, log 19). -/
def Obligations.IllegalOperandsFault : Prop :=
  ∀ (i : Instr) (op : Op) (s : State), i.op = some op → opEnabled s.cfg op = true → i.encodable s.cfg = true →
    i.operandsLegal s.cfg = false → exec i s = .fault .badOperand ∨ exec i s = .fault .badAddressSpace

/-- An axVM instruction that the configuration does not enable is `UnknownOpcode`, whatever its operands (R129, R601). -/
def Obligations.DisabledInstructionsFault : Prop :=
  ∀ (i : Instr) (op : Op) (s : State), i.op = some op → opEnabled s.cfg op = false → exec i s = .fault .unknownOpcode

/-! ### Transpilation -/

/-- A RISC-V word runs exactly as the axVM instruction it is transpiled to, and is refused where it has none (R470, R480 to R557;
transpiling at the fetch is the model's choice, log 9). -/
def Obligations.WordsRunAsTheirTranspilation : Prop :=
  ∀ (i : Instr) (s : State),
    exec i s = match transpile s.cfg i with | .ok j => exec j s | .error why => .refused why

/-- What a RISC-V word other than a 256-bit branch is transpiled to is an axVM instruction of field elements with a legal operand list
(R472, R473, R124, R126). -/
def Obligations.TranspiledInstructionsAreLegal : Prop :=
  ∀ (cfg : Config) (w : Word) (i j : Instr), cfg.Wf → decodeWord w = some i → transpile cfg i = .ok j →
    (w &&& 0x707F#32 ≠ 0x500B#32 ∨ (w >>> 25).toNat < 10 ∨ (w >>> 25).toNat = 16) →
    j.op ≠ none ∧ j.encodable cfg = true ∧ j.operandsLegal cfg = true

/-- The words that the transpiler refuses for their fields: `iseqmod` into `x0` (R475, R555), an index that is not configured (R476, R551,
R556), a 256-bit branch whose immediate is not supplied (R147, R544 to R549; logs 18 and 25). A program that holds a word the
transpiler refuses takes no step, wherever the word stands, and a running program that holds none is never refused (R476). -/
def Obligations.UntranspilableWordsAreRefused : Prop :=
  ∀ (s : State) (idx : BitVec 4) (rd rs1 rs2 : BitVec 5),
    (exec (.rvIseqmod idx 0 rs1 rs2) s = .refused .iseqmodIntoX0) ∧
    (s.cfg.moduli.length ≤ idx.toNat →
      (∀ f ∈ [Instr.rvAddmod, .rvSubmod, .rvMulmod, .rvDivmod], exec (f idx rd rs1 rs2) s = .refused .modulusNotConfigured) ∧
      (rd ≠ 0 → exec (.rvIseqmod idx rd rs1 rs2) s = .refused .modulusNotConfigured)) ∧
    (s.cfg.curves.length ≤ idx.toNat →
      exec (.rvSwAddNe idx rd rs1 rs2) s = .refused .curveNotConfigured ∧
      exec (.rvSwDouble idx rd rs1) s = .refused .curveNotConfigured) ∧
    (∀ f ∈ [Instr.rvBeq256, .rvBne256, .rvBlt256, .rvBge256, .rvBltu256, .rvBgeu256], ∀ w,
      encodeWord (f rd rs1 rs2) = some w → (∀ off, (w, off) ∉ s.cfg.immBranch256) →
        exec (f rd rs1 rs2) s = .refused .immBranch256NotSupplied) ∧
    (∀ (k : Nat) (w : Word) (i : Instr) (why : Refusal), s.status = .running → (k, .riscv w) ∈ s.prog → decodeWord w = some i →
      transpile s.cfg i = .error why → ∃ why', step s = .refused why') ∧
    (s.status = .running → s.rejection = none → ∀ why, step s ≠ .refused why)

/-! ### System -/

/-- `TERMINATE` ends the run with the exit code and leaves `pc` and everything else as it was; `terminate` takes its code unsigned
(R180, R529). -/
def Obligations.TerminateEndsTheRun : Prop :=
  ∀ (s : State) (i : Instr) (code : Nat), opEnabled s.cfg .terminate = true →
    (i = .terminate ⟨0, 0, code, 0, 0, 0, 0⟩ ∨ ∃ imm : BitVec 12, i = .rvTerminate imm ∧ code = imm.toNat) →
    exec i s = .next { s with status := .terminated code }

/-- The phantoms without effect on the machine: `NOP`, `CT_START`, `CT_END` and `PRINT_F` advance `pc` and at most reach the host's
sinks (R185, R187, R194, R195; the event log is the model's, log 22). -/
def Obligations.QuietPhantomsOnlyAdvance : Prop :=
  ∀ s : State, s.Ready .phantom →
    exec (.phantomNop ⟨0, 0, 0, 0, 0, 0, 0⟩) s = .next { s with pc := s.pc + 4 } ∧
    exec (.phantomCtStart ⟨0, 0, 0, 0, 0, 0, 0⟩) s = .next { s with pc := s.pc + 4, hostLog := s.hostLog ++ [.spanOpened] } ∧
    exec (.phantomCtEnd ⟨0, 0, 0, 0, 0, 0, 0⟩) s = .next { s with pc := s.pc + 4, hostLog := s.hostLog ++ [.spanClosed] } ∧
    ∀ a sp, ValidSpace s.cfg sp → s.Fits a 1 →
      exec (.phantomPrintF ⟨a, 0, sp, 0, 0, 0, 0⟩) s =
        .next { s with pc := s.pc + 4, hostLog := s.hostLog ++ [.printed (s.mem.read ⟨sp, a⟩)] }

/-- `HINT_INPUT` and `hintinput`: the next input vector, its length first, becomes the hint stream; with no vector left the step faults
(R192, R532). -/
def Obligations.HintInputResetsTheHintStream : Prop :=
  ∀ (s : State) (i : Instr), s.Ready .phantom → (i = .phantomHintInput ⟨0, 0, 0, 0, 0, 0, 0⟩ ∨ i = .rvHintinput) →
    (∀ hint rest, s.inputStream = hint :: rest → hint.length < s.cfg.p →
      exec i s = .next { s with pc := s.pc + 4, inputStream := rest, hintStream := hint.length :: hint }) ∧
    (s.inputStream = [] → exec i s = .fault .inputStreamEmpty)

/-- `HINT_BITS`: the `b` low bits of the cell, bit 0 first, become the hint stream; their sum is the value modulo `2^b` (R193). -/
def Obligations.HintBitsDecomposesTheCell : Prop :=
  ∀ (s : State) (a b sp : Nat), s.Ready .phantom → ValidSpace s.cfg sp → s.Fits a 1 → b ≤ 32 →
    ∃ bits : List Nat, bits.length = b ∧ (∀ x ∈ bits, x < 2) ∧
      (∀ k (h : k < bits.length), bits[k] = s.mem.read ⟨sp, a⟩ / 2 ^ k % 2) ∧
      (bits.foldr (fun x acc => x + 2 * acc) 0) = s.mem.read ⟨sp, a⟩ % 2 ^ b ∧
      exec (.phantomHintBits ⟨a, b, sp, 0, 0, 0, 0⟩) s = .next { s with pc := s.pc + 4, hintStream := bits }

/-- `PHANTOM` runs the sub-instruction that the low 16 bits of `c` name, and an unassigned discriminant faults (R190, R198). -/
def Obligations.PhantomSelectsTheSubInstruction : Prop :=
  ∀ s : State,
    (s.Ready .phantom → exec (.phantom ⟨0, 0, 0, 0, 0, 0, 0⟩) s = .next { s with pc := s.pc + 4 }) ∧
    (∀ o : Operands, o.c % 65536 < 9 → exec (.phantom o) s = exec (decodePhantom o) s) ∧
    (∀ o : Operands, 9 ≤ o.c % 65536 → opEnabled s.cfg .phantom = true → o.d = 0 → o.e = 0 → o.f = 0 → o.g = 0 →
      exec (.phantom o) s = .fault .unknownPhantom)

/-- `DEBUG_PANIC` never has a successor, and the two sub-instructions whose operands and description are "todo" are not modelled: each
faults (R186, R196, R197). -/
def Obligations.PanicAndUndescribedPhantomsFault : Prop :=
  ∀ s : State, opEnabled s.cfg .phantom = true →
    exec (.phantomDebugPanic ⟨0, 0, 0, 0, 0, 0, 0⟩) s = .fault .debugPanic ∧
    ∀ a b c, exec (.phantomHintFinalExpBn254 ⟨a, b, c, 0, 0, 0, 0⟩) s = .fault .unmodelledPhantom ∧
      exec (.phantomHintFinalExpBls12381 ⟨a, b, c, 0, 0, 0, 0⟩) s = .fault .unmodelledPhantom

/-! ### RV32 -/

/-- The ten ALU instructions: `[a:4]_1 = OP([b:4]_1, Op2(c, e))`, for a register and for a sign-extended immediate as second operand;
nothing else changes but `pc` (R223 to R227, R231, R232; for the three shifts R228 to R230 the amount is the spec's decision of R233, log 27). -/
def Obligations.AluWritesItsResult : Prop :=
  ∀ row ∈ ([
      (.addRv32, .addRv32, fun x y => (x.toNat + y.toNat) % 2 ^ 32),
      (.subRv32, .subRv32, fun x y => (x.toNat + (2 ^ 32 - y.toNat)) % 2 ^ 32),
      (.xorRv32, .xorRv32, fun x y => x.toNat ^^^ y.toNat),
      (.orRv32, .orRv32, fun x y => x.toNat ||| y.toNat),
      (.andRv32, .andRv32, fun x y => x.toNat &&& y.toNat),
      (.sllRv32, .sllRv32, fun x y => x.toNat * 2 ^ (y.toNat % 32) % 2 ^ 32),
      (.srlRv32, .srlRv32, fun x y => x.toNat / 2 ^ (y.toNat % 32)),
      (.sraRv32, .sraRv32, fun x y => (x.toInt / 2 ^ (y.toNat % 32) % 2 ^ 32).toNat),
      (.sltRv32, .sltRv32, fun x y => if x.toInt < y.toInt then 1 else 0),
      (.sltuRv32, .sltuRv32, fun x y => if x.toNat < y.toNat then 1 else 0)] :
      List ((Operands → Instr) × Op × (Word → Word → Nat))),
    ∀ (s : State) (a b c e : Nat) (x y : Word), s.Ready row.2.1 → s.RegPtr a → s.Holds b x →
      (e = 1 ∧ s.Holds c y ∨ e = 0 ∧ AluImmediate c ∧ y = (BitVec.ofNat 24 c).signExtend 32) →
      ∃ t, exec (row.1 ⟨a, b, c, 1, e, 0, 0⟩) s = .next t ∧ Wrote s t (s.pc + 4) 1 a 4 (byteOf (row.2.2 x y))

/-- The eight multiply and divide instructions: the value written to `[a:4]_1`, with the two special cases of the divisions; nothing
else changes but `pc`, and no operand value faults (R311 to R314, R316, R318; for `DIV_RV32` and `REM_RV32` the sign of the remainder is the
configuration's, log 17). -/
def Obligations.MulDivWritesItsResult : Prop :=
  ∀ row ∈ ([
      (.mulRv32, .mulRv32, fun _ x y => x.toNat * y.toNat % 2 ^ 32),
      (.mulhRv32, .mulhRv32, fun _ x y => (x.toInt * y.toInt / 2 ^ 32 % 2 ^ 32).toNat),
      (.mulhsuRv32, .mulhsuRv32, fun _ x y => (x.toInt * y.toNat / 2 ^ 32 % 2 ^ 32).toNat),
      (.mulhuRv32, .mulhuRv32, fun _ x y => x.toNat * y.toNat / 2 ^ 32),
      (.divRv32, .divRv32, fun sign x y => if y.toInt = 0 then 2 ^ 32 - 1
        else if x.toInt = -2 ^ 31 ∧ y.toInt = -1 then 2 ^ 31 else ((signedDivRem sign x.toInt y.toInt).1 % 2 ^ 32).toNat),
      (.divuRv32, .divuRv32, fun _ x y => if y.toNat = 0 then 2 ^ 32 - 1 else x.toNat / y.toNat),
      (.remRv32, .remRv32, fun sign x y => if y.toInt = 0 then x.toNat
        else if x.toInt = -2 ^ 31 ∧ y.toInt = -1 then 0 else ((signedDivRem sign x.toInt y.toInt).2 % 2 ^ 32).toNat),
      (.remuRv32, .remuRv32, fun _ x y => if y.toNat = 0 then x.toNat else x.toNat % y.toNat)] :
      List ((Operands → Instr) × Op × (DivRemSign → Word → Word → Nat))),
    ∀ (s : State) (a b c : Nat) (x y : Word), s.Ready row.2.1 → s.RegPtr a → s.Holds b x → s.Holds c y →
      ∃ t, exec (row.1 ⟨a, b, c, 1, 0, 0, 0⟩) s = .next t ∧
        Wrote s t (s.pc + 4) 1 a 4 (byteOf (row.2.2 s.cfg.divRemSign x y))

/-- The signed quotient and remainder are those of the spec's definition: the dividend is `q * divisor + r` with `|r| < |divisor|`, and
`r` is 0 or has the sign the configuration names (R320; whose sign, log 17). -/
def Obligations.SignedDivisionMeetsItsDefinition : Prop :=
  ∀ (sign : DivRemSign) (n m : Int), m ≠ 0 →
    let q := (signedDivRem sign n m).1
    let r := (signedDivRem sign n m).2
    n = q * m + r ∧ |r| < |m| ∧
      (r = 0 ∨ match sign with | .dividend => r.sign = n.sign | .divisor => r.sign = m.sign)

/-- The five loads: the aligned cells at `r32{c}(b)` in space `e`, extended as each says, go to the register `a`; nothing else changes
but `pc` (R251 to R258; that a byte or halfword access sees its own cells only is DEDUCED, log 28). -/
def Obligations.LoadsWriteTheRegister : Prop :=
  ∀ row ∈ ([
      (.loadbRv32, .loadbRv32, 1, fun v => (BitVec.ofNat 8 v).signExtend 32),
      (.loadhRv32, .loadhRv32, 2, fun v => (BitVec.ofNat 16 v).signExtend 32),
      (.loadwRv32, .loadwRv32, 4, fun v => BitVec.ofNat 32 v),
      (.loadbuRv32, .loadbuRv32, 1, fun v => BitVec.ofNat 32 v),
      (.loadhuRv32, .loadhuRv32, 2, fun v => BitVec.ofNat 32 v)] :
      List ((Operands → Instr) × Op × Nat × (Nat → Word))),
    ∀ (s : State) (a b c e : Nat) (x : Word) (q v : Nat), s.Ready row.2.1 → ValidSpace s.cfg e → c < 2 ^ 16 → s.RegPtr a →
      s.Holds b x → displaced x c = q → q % row.2.2.1 = 0 → s.Fits q row.2.2.1 → s.HoldsBytes e q row.2.2.1 v →
      ∃ t, exec (row.1 ⟨a, b, c, 1, e, 0, 0⟩) s = .next t ∧
        Wrote s t (s.pc + 4) 1 a 4 (byteOf (row.2.2.2 v).toNat)

/-- The three stores: the low bytes of the register `a` go to the aligned cells at `r32{c}(b)` in space `e`; nothing else changes but
`pc`. `REVEAL_RV32` is `STOREW_RV32` to space 3 (R251 to R253, R259 to R262, R331;
log 28). -/
def Obligations.StoresWriteTheCells : Prop :=
  ∀ row ∈ ([(.storebRv32, .storebRv32, 1), (.storehRv32, .storehRv32, 2), (.storewRv32, .storewRv32, 4),
      (.revealRv32, .storewRv32, 4)] : List ((Operands → Instr) × Op × Nat)),
    ∀ (s : State) (a b c e : Nat) (x y : Word) (q : Nat), s.Ready row.2.1 → ValidSpace s.cfg e → c < 2 ^ 16 →
      (row.1 = .revealRv32 → e = 3) → s.Holds a y → s.Holds b x → displaced x c = q → q % row.2.2 = 0 → s.Fits q row.2.2 →
      ∃ t, exec (row.1 ⟨a, b, c, 1, e, 0, 0⟩) s = .next t ∧ Wrote s t (s.pc + 4) e q row.2.2 (byteOf y.toNat)

/-- The six branches: `pc` goes to `pc + c` where the condition holds and to the next location where it does not, and nothing else
changes (R281 to R288; `pc` counts by its canonical value, DEDUCED, log 29). -/
def Obligations.BranchesSetPc : Prop :=
  ∀ row ∈ ([
      (.beqRv32, .beqRv32, fun x y => decide (x = y)),
      (.bneRv32, .bneRv32, fun x y => decide (x ≠ y)),
      (.bltRv32, .bltRv32, fun x y => decide (x.toInt < y.toInt)),
      (.bgeRv32, .bgeRv32, fun x y => decide (y.toInt ≤ x.toInt)),
      (.bltuRv32, .bltuRv32, fun x y => decide (x.toNat < y.toNat)),
      (.bgeuRv32, .bgeuRv32, fun x y => decide (y.toNat ≤ x.toNat))] :
      List ((Operands → Instr) × Op × (Word → Word → Bool))),
    ∀ (s : State) (a b c : Nat) (x y : Word) (q : Nat), s.cfg.Wf → opEnabled s.cfg row.2.1 = true →
      BranchOffset s.cfg.p c → s.Holds a x → s.Holds b y → q < 2 ^ 30 →
      (q : Int) = s.pc + (if row.2.2 x y then centred s.cfg.p c else 4) →
      exec (row.1 ⟨a, b, c, 1, 1, 0, 0⟩) s = .next { s with pc := q }

/-- A branch that is taken to a target outside `[0, 2^30)` faults, and one that is not taken runs on, whatever its target (R44, R281;
log 29). -/
def Obligations.BranchOutOfRangeFaults : Prop :=
  ∀ row ∈ ([
      (.beqRv32, .beqRv32, fun x y => decide (x = y)),
      (.bneRv32, .bneRv32, fun x y => decide (x ≠ y)),
      (.bltRv32, .bltRv32, fun x y => decide (x.toInt < y.toInt)),
      (.bgeRv32, .bgeRv32, fun x y => decide (y.toInt ≤ x.toInt)),
      (.bltuRv32, .bltuRv32, fun x y => decide (x.toNat < y.toNat)),
      (.bgeuRv32, .bgeuRv32, fun x y => decide (y.toNat ≤ x.toNat))] :
      List ((Operands → Instr) × Op × (Word → Word → Bool))),
    ∀ (s : State) (a b c : Nat) (x y : Word), opEnabled s.cfg row.2.1 = true → s.cfg.Wf →
      BranchOffset s.cfg.p c → s.Holds a x → s.Holds b y →
      ((s.pc : Int) + centred s.cfg.p c < 0 ∨ 2 ^ 30 ≤ (s.pc : Int) + centred s.cfg.p c) →
      (row.2.2 x y = true → exec (row.1 ⟨a, b, c, 1, 1, 0, 0⟩) s = .fault .pcOutOfRange) ∧
      (row.2.2 x y = false → s.pc + 4 < 2 ^ 30 → exec (row.1 ⟨a, b, c, 1, 1, 0, 0⟩) s = .next { s with pc := s.pc + 4 })

/-- `JAL_RV32` and `JALR_RV32`: `pc` goes to the target, and with `f = 1` the location of the next instruction goes to the register
`a`; the base register is read before the link is written (R289, R290; log 29). -/
def Obligations.JumpsLinkAndSetPc : Prop :=
  ∀ (s : State) (a b c : Nat) (x : Word) (q : Nat), s.cfg.Wf → s.pc < 2 ^ 30 → q < 2 ^ 30 →
    (opEnabled s.cfg .jalRv32 = true → BranchOffset s.cfg.p c → (q : Int) = s.pc + centred s.cfg.p c →
      exec (.jalRv32 ⟨a, 0, c, 1, 0, 0, 0⟩) s = .next { s with pc := q } ∧
      (s.RegPtr a → ∃ t, exec (.jalRv32 ⟨a, 0, c, 1, 0, 1, 0⟩) s = .next t ∧ Wrote s t q 1 a 4 (byteOf (s.pc + 4)))) ∧
    (opEnabled s.cfg .jalrRv32 = true → c < 2 ^ 16 → s.Holds b x → displaced x c = q →
      exec (.jalrRv32 ⟨a, b, c, 1, 0, 0, 0⟩) s = .next { s with pc := q } ∧
      (s.RegPtr a → ∃ t, exec (.jalrRv32 ⟨a, b, c, 1, 0, 1, 0⟩) s = .next t ∧ Wrote s t q 1 a 4 (byteOf (s.pc + 4))))

/-- `LUI_RV32` and `AUIPC_RV32`: `c << 12`, added to `pc` for the latter, goes to the register `a`; nothing else changes but `pc`
(R291, R292). -/
def Obligations.UpperImmediatesWriteTheRegister : Prop :=
  ∀ (s : State) (a c : Nat), c < 2 ^ 20 → s.RegPtr a →
    (s.Ready .luiRv32 → ∃ t, exec (.luiRv32 ⟨a, 0, c, 1, 0, 1, 0⟩) s = .next t ∧
      Wrote s t (s.pc + 4) 1 a 4 (byteOf (c * 4096))) ∧
    (s.Ready .auipcRv32 → ∃ t, exec (.auipcRv32 ⟨a, 0, c, 1, 0, 0, 0⟩) s = .next t ∧
      Wrote s t (s.pc + 4) 1 a 4 (byteOf ((s.pc + c * 4096) % 2 ^ 32)))

/-- `HINTSTOREW_RV32` and `hintstorew`: the next four hint elements, which are bytes, leave the stream and go to the aligned cells at
`r32{c}(b)` in space 2; nothing else changes but `pc` (R330, R530). -/
def Obligations.HintstorewStoresTheHint : Prop :=
  ∀ (s : State) (i : Instr) (b c : Nat) (x : Word) (q : Nat) (h0 h1 h2 h3 : Nat) (rest : List Nat),
    s.Ready .hintstorewRv32 →
    (i = .hintstorewRv32 ⟨0, b, c, 1, 2, 0, 0⟩ ∨
      ∃ (rd : BitVec 5) (imm : BitVec 12), i = .rvHintstorew rd imm ∧ b = 4 * rd.toNat ∧ c = (imm.signExtend 16).toNat) →
    c < 2 ^ 16 → s.Holds b x → displaced x c = q → q % 4 = 0 → s.Fits q 4 →
    s.hintStream = h0 :: h1 :: h2 :: h3 :: rest → h0 < 256 → h1 < 256 → h2 < 256 → h3 < 256 →
    ∃ t, exec i s = .next t ∧ Wrote { s with hintStream := rest } t (s.pc + 4) 2 q 4 ([h0, h1, h2, h3].getD · 0)

/-- `KECCAK256_RV32` and `keccak256`: the digest of the message at the source pointer goes to the 32 cells at the destination pointer,
whatever function `keccak256` is; nothing else changes but `pc` (R332, R333, R533; log 14). -/
def Obligations.KeccakWritesTheDigest : Prop :=
  ∀ (s : State) (i : Instr) (a b c e : Nat) (src len dst : Nat) (m : List Nat), s.Ready .keccak256Rv32 →
    (i = .keccak256Rv32 ⟨a, b, c, 1, e, 0, 0⟩ ∨
      ∃ rd rs1 rs2 : BitVec 5, i = .rvKeccak256 rd rs1 rs2 ∧ a = 4 * rd.toNat ∧ b = 4 * rs1.toNat ∧ c = 4 * rs2.toNat ∧ e = 2) →
    ValidSpace s.cfg e → s.PointsTo a dst 32 4 → s.PointsTo b src len 4 → s.Holds c (BitVec.ofNat 32 len) → len < 2 ^ 31 →
    m.length = len → (∀ k (h : k < m.length), s.mem.read ⟨e, src + k⟩ = m[k] ∧ m[k] < 256) →
    ∃ t, exec i s = .next t ∧
      Wrote s t (s.pc + 4) e dst 32 (fun k => if h : k < 32 then (Config.keccak256 m ⟨k, h⟩).toNat else 0)

/-! ### 256-bit -/

/-- The eleven 256-bit instructions and the RISC-V words that become them: the result goes to the 32 cells that the register `a` points
to; nothing else changes but `pc` (R350 to R364, R372, R534 to R543, R550). For the three shifts the
amount is below 256, or the configuration keeps the default of R354 (log 16). -/
def Obligations.Int256WritesItsResult : Prop :=
  ∀ row ∈ ([
      (.add256Rv32, .rvAdd256, .add256Rv32, fun x y => (x.toNat + y.toNat) % 2 ^ 256),
      (.sub256Rv32, .rvSub256, .sub256Rv32, fun x y => (x.toNat + (2 ^ 256 - y.toNat)) % 2 ^ 256),
      (.xor256Rv32, .rvXor256, .xor256Rv32, fun x y => x.toNat ^^^ y.toNat),
      (.or256Rv32, .rvOr256, .or256Rv32, fun x y => x.toNat ||| y.toNat),
      (.and256Rv32, .rvAnd256, .and256Rv32, fun x y => x.toNat &&& y.toNat),
      (.sll256Rv32, .rvSll256, .sll256Rv32, fun x y => x.toNat * 2 ^ (y.toNat % 256) % 2 ^ 256),
      (.srl256Rv32, .rvSrl256, .srl256Rv32, fun x y => x.toNat / 2 ^ (y.toNat % 256)),
      (.sra256Rv32, .rvSra256, .sra256Rv32, fun x y => (x.toInt / 2 ^ (y.toNat % 256) % 2 ^ 256).toNat),
      (.slt256Rv32, .rvSlt256, .slt256Rv32, fun x y => if x.toInt < y.toInt then 1 else 0),
      (.sltu256Rv32, .rvSltu256, .sltu256Rv32, fun x y => if x.toNat < y.toNat then 1 else 0),
      (.mul256Rv32, .rvMul256, .mul256Rv32, fun x y => x.toNat * y.toNat % 2 ^ 256)] :
      List ((Operands → Instr) × (BitVec 5 → BitVec 5 → BitVec 5 → Instr) × Op × (Wide → Wide → Nat))),
    ∀ (s : State) (i : Instr) (a b c : Nat) (x y : Wide) (qa qb qc : Nat), s.Ready row.2.2.1 →
      (i = row.1 ⟨a, b, c, 1, 2, 0, 0⟩ ∨ ∃ rd rs1 rs2 : BitVec 5, i = row.2.1 rd rs1 rs2 ∧ a = 4 * rd.toNat ∧
        b = 4 * rs1.toNat ∧ c = 4 * rs2.toNat) →
      s.PointsTo a qa 32 32 → s.PointsTo b qb 32 32 → s.PointsTo c qc 32 32 →
      s.HoldsBytes 2 qb 32 x.toNat → s.HoldsBytes 2 qc 32 y.toNat →
      (row.2.2.1 ∈ [.sll256Rv32, .srl256Rv32, .sra256Rv32] → y.toNat < 256 ∨ s.cfg.shamt256 = []) →
      ∃ t, exec i s = .next t ∧ Wrote s t (s.pc + 4) 2 qa 32 (byteOf (row.2.2.2 x y))

/-- The six 256-bit branches, and the RISC-V words for which the configuration supplies the immediate: `pc` goes to `pc + c` where the
condition on the two blocks holds and to the next location where it does not, and nothing else changes (R365 to R371, R147,
R544 to R549; logs 18 and 29). -/
def Obligations.Branch256SetsPc : Prop :=
  ∀ row ∈ ([
      (.beq256Rv32, .rvBeq256, .beq256Rv32, fun x y => decide (x = y)),
      (.bne256Rv32, .rvBne256, .bne256Rv32, fun x y => decide (x ≠ y)),
      (.blt256Rv32, .rvBlt256, .blt256Rv32, fun x y => decide (x.toInt < y.toInt)),
      (.bge256Rv32, .rvBge256, .bge256Rv32, fun x y => decide (y.toInt ≤ x.toInt)),
      (.bltu256Rv32, .rvBltu256, .bltu256Rv32, fun x y => decide (x.toNat < y.toNat)),
      (.bgeu256Rv32, .rvBgeu256, .bgeu256Rv32, fun x y => decide (y.toNat ≤ x.toNat))] :
      List ((Operands → Instr) × (BitVec 5 → BitVec 5 → BitVec 5 → Instr) × Op × (Wide → Wide → Bool))),
    ∀ (s : State) (i : Instr) (a b c : Nat) (off : Int) (x y : Wide) (qa qb q : Nat), s.cfg.Wf →
      opEnabled s.cfg row.2.2.1 = true →
      (i = row.1 ⟨a, b, c, 1, 2, 0, 0⟩ ∧ off = centred s.cfg.p c ∨
        ∃ (rd rs1 rs2 : BitVec 5) (w : Word), i = row.2.1 rd rs1 rs2 ∧ encodeWord i = some w ∧
          immBranch256 s.cfg w = some off ∧ a = 4 * rs1.toNat ∧ b = 4 * rs2.toNat) →
      -(2 ^ 24) ≤ off → off < 2 ^ 24 →
      s.PointsTo a qa 32 32 → s.PointsTo b qb 32 32 → s.HoldsBytes 2 qa 32 x.toNat → s.HoldsBytes 2 qb 32 y.toNat →
      q < 2 ^ 30 → (q : Int) = s.pc + (if row.2.2.2 x y then off else 4) →
      exec i s = .next { s with pc := q }

/-! ### Modular arithmetic and curves -/

/-- The four modular instructions and the RISC-V words that become them: some number of `NUM_LIMBS` bytes with the residue the rule
states goes to the cells that the register `a` points to, whichever the free choice is; nothing else changes but `pc` and the
count of free choices (R391 to R397, R551 to R554; log 12). -/
def Obligations.ModularWritesARepresentative : Prop :=
  ∀ row ∈ ([
      (.addmodRv32, .rvAddmod, .addmodRv32, fun _ _ => True, fun n x y v => (v : Int) ≡ x + y [ZMOD n]),
      (.submodRv32, .rvSubmod, .submodRv32, fun _ _ => True, fun n x y v => (v : Int) ≡ x - y [ZMOD n]),
      (.mulmodRv32, .rvMulmod, .mulmodRv32, fun _ _ => True, fun n x y v => (v : Int) ≡ x * y [ZMOD n]),
      (.divmodRv32, .rvDivmod, .divmodRv32, fun n y => Nat.gcd y n = 1, fun n x y v => (v : Int) * y ≡ x [ZMOD n])] :
      List ((Nat → Operands → Instr) × (BitVec 4 → BitVec 5 → BitVec 5 → BitVec 5 → Instr) × (Nat → Op) ×
        (Nat → Nat → Prop) × (Nat → Nat → Nat → Nat → Prop))),
    ∀ (s : State) (i : Instr) (n : Nat) (m : Modulus) (a b c : Nat) (x y qa qb qc : Nat), s.Ready (row.2.2.1 n) →
      (i = row.1 n ⟨a, b, c, 1, 2, 0, 0⟩ ∨ ∃ (idx : BitVec 4) (rd rs1 rs2 : BitVec 5), i = row.2.1 idx rd rs1 rs2 ∧
        n = idx.toNat ∧ a = 4 * rd.toNat ∧ b = 4 * rs1.toNat ∧ c = 4 * rs2.toNat) →
      s.cfg.moduli[n]? = some m → s.PointsTo a qa m.numLimbs m.blockSize → s.PointsTo b qb m.numLimbs m.blockSize →
      s.PointsTo c qc m.numLimbs m.blockSize → s.HoldsBytes 2 qb m.numLimbs x → s.HoldsBytes 2 qc m.numLimbs y →
      row.2.2.2.1 m.n y →
      ∃ t v, exec i s = .next t ∧ v < 256 ^ m.numLimbs ∧ row.2.2.2.2 m.n x y v ∧
        Wrote { s with draws := s.draws + 1 } t (s.pc + 4) 2 qa m.numLimbs (byteOf v)

/-- `ISEQMOD_RV32` and `iseqmod`: 1 or 0 goes to the register `a` where both inputs are reduced, and an input that is not below the modulus
faults (R398, R555). -/
def Obligations.IseqmodComparesReducedInputs : Prop :=
  ∀ (s : State) (i : Instr) (n : Nat) (m : Modulus) (a b c : Nat) (x y qb qc : Nat), s.Ready (.iseqmodRv32 n) →
    (i = .iseqmodRv32 n ⟨a, b, c, 1, 2, 0, 0⟩ ∨ ∃ (idx : BitVec 4) (rd rs1 rs2 : BitVec 5), i = .rvIseqmod idx rd rs1 rs2 ∧
      rd ≠ 0 ∧ n = idx.toNat ∧ a = 4 * rd.toNat ∧ b = 4 * rs1.toNat ∧ c = 4 * rs2.toNat) →
    s.cfg.moduli[n]? = some m → s.RegPtr a → s.PointsTo b qb m.numLimbs m.blockSize →
    s.PointsTo c qc m.numLimbs m.blockSize → s.HoldsBytes 2 qb m.numLimbs x → s.HoldsBytes 2 qc m.numLimbs y →
    (x < m.n → y < m.n → ∃ t, exec i s = .next t ∧
      Wrote s t (s.pc + 4) 1 a 4 (byteOf (if x = y then 1 else 0))) ∧
    (m.n ≤ x ∨ m.n ≤ y → exec i s = .fault .notReduced)

/-- `SW_ADD_NE` and `sw_add_ne`: for two points of the curve with different `x`, the third point of the chord, negated, goes to the cells
that the register `a` points to, each coordinate in some representative, and it lies on the curve; nothing else changes but `pc` and
the count of free choices (R401, R402, R556; formulas PRESUMED, log 13). -/
def Obligations.CurveAdditionStaysOnTheCurve : Prop :=
  ∀ (s : State) (i : Instr) (n : Nat) (cv : Curve) (a b c : Nat) (x1 y1 x2 y2 qa qb qc : Nat), s.Ready (.swAddNe n) →
    (i = .swAddNe n ⟨a, b, c, 1, 2, 0, 0⟩ ∨ ∃ (idx : BitVec 4) (rd rs1 rs2 : BitVec 5), i = .rvSwAddNe idx rd rs1 rs2 ∧
      n = idx.toNat ∧ a = 4 * rd.toNat ∧ b = 4 * rs1.toNat ∧ c = 4 * rs2.toNat) →
    s.cfg.curves[n]? = some cv → cv.p.Prime →
    s.PointsTo a qa (2 * cv.coordSize) cv.blockSize → s.PointsTo b qb (2 * cv.coordSize) cv.blockSize →
    s.PointsTo c qc (2 * cv.coordSize) cv.blockSize →
    s.HoldsBytes 2 qb cv.coordSize x1 → s.HoldsBytes 2 (qb + cv.coordSize) cv.coordSize y1 →
    s.HoldsBytes 2 qc cv.coordSize x2 → s.HoldsBytes 2 (qc + cv.coordSize) cv.coordSize y2 →
    ¬ (x1 : Int) ≡ x2 [ZMOD cv.p] → OnCurve cv x1 y1 → OnCurve cv x2 y2 →
    ∃ (t : State) (x3 y3 : Nat) (lam : Int), exec i s = .next t ∧ x3 < 256 ^ cv.coordSize ∧ y3 < 256 ^ cv.coordSize ∧
      lam * (x2 - x1) ≡ y2 - y1 [ZMOD cv.p] ∧ (x3 : Int) ≡ lam ^ 2 - x1 - x2 [ZMOD cv.p] ∧
      (y3 : Int) ≡ lam * (x1 - x3) - y1 [ZMOD cv.p] ∧ OnCurve cv x3 y3 ∧
      Wrote { s with draws := s.draws + 2 } t (s.pc + 4) 2 qa (2 * cv.coordSize)
        (fun k => if k < cv.coordSize then byteOf x3 k else byteOf y3 (k - cv.coordSize))

/-- `SW_DOUBLE` and `sw_double`: for a point of the curve whose `y` is not 0, the third point of the tangent, negated, goes to the cells
that the register `a` points to, and it lies on the curve; nothing else changes but `pc` and the count of free choices (R401,
R403, R557; formulas PRESUMED, log 13). -/
def Obligations.CurveDoublingStaysOnTheCurve : Prop :=
  ∀ (s : State) (i : Instr) (n : Nat) (cv : Curve) (a b : Nat) (x1 y1 qa qb : Nat), s.Ready (.swDouble n) →
    (i = .swDouble n ⟨a, b, 0, 1, 2, 0, 0⟩ ∨ ∃ (idx : BitVec 4) (rd rs1 : BitVec 5), i = .rvSwDouble idx rd rs1 ∧
      n = idx.toNat ∧ a = 4 * rd.toNat ∧ b = 4 * rs1.toNat) →
    s.cfg.curves[n]? = some cv → cv.p.Prime →
    s.PointsTo a qa (2 * cv.coordSize) cv.blockSize → s.PointsTo b qb (2 * cv.coordSize) cv.blockSize →
    s.HoldsBytes 2 qb cv.coordSize x1 → s.HoldsBytes 2 (qb + cv.coordSize) cv.coordSize y1 →
    OnCurve cv x1 y1 → ¬ 2 * (y1 : Int) ≡ 0 [ZMOD cv.p] →
    ∃ (t : State) (x3 y3 : Nat) (lam : Int), exec i s = .next t ∧ x3 < 256 ^ cv.coordSize ∧ y3 < 256 ^ cv.coordSize ∧
      lam * (2 * y1) ≡ 3 * (x1 : Int) ^ 2 [ZMOD cv.p] ∧ (x3 : Int) ≡ lam ^ 2 - 2 * x1 [ZMOD cv.p] ∧
      (y3 : Int) ≡ lam * (x1 - x3) - y1 [ZMOD cv.p] ∧ OnCurve cv x3 y3 ∧
      Wrote { s with draws := s.draws + 2 } t (s.pc + 4) 2 qa (2 * cv.coordSize)
        (fun k => if k < cv.coordSize then byteOf x3 k else byteOf y3 (k - cv.coordSize))

/-- The behaviours the source calls undefined or assumes away are faults of their own: a divisor that shares a factor with the
modulus, equal `x` coordinates, a point off the curve, a point of order 2 (R397, R402, R403, R603). -/
def Obligations.UndefinedBehavioursFault : Prop :=
  (∀ (s : State) (n : Nat) (m : Modulus) (a b c : Nat) (ra : Word) (x y qb qc : Nat), s.Ready (.divmodRv32 n) →
    s.cfg.moduli[n]? = some m → s.Holds a ra → s.PointsTo b qb m.numLimbs m.blockSize →
    s.PointsTo c qc m.numLimbs m.blockSize → s.HoldsBytes 2 qb m.numLimbs x → s.HoldsBytes 2 qc m.numLimbs y →
    Nat.gcd y m.n ≠ 1 → exec (.divmodRv32 n ⟨a, b, c, 1, 2, 0, 0⟩) s = .fault .divmodNotCoprime) ∧
  (∀ (s : State) (n : Nat) (cv : Curve) (a b c : Nat) (ra : Word) (x1 y1 x2 y2 qb qc : Nat),
    s.cfg.Wf → s.cfg.curves[n]? = some cv → s.Holds a ra → s.PointsTo b qb (2 * cv.coordSize) cv.blockSize →
    s.PointsTo c qc (2 * cv.coordSize) cv.blockSize →
    s.HoldsBytes 2 qb cv.coordSize x1 → s.HoldsBytes 2 (qb + cv.coordSize) cv.coordSize y1 →
    s.HoldsBytes 2 qc cv.coordSize x2 → s.HoldsBytes 2 (qc + cv.coordSize) cv.coordSize y2 →
    (opEnabled s.cfg (.swAddNe n) = true →
      ((x1 : Int) ≡ x2 [ZMOD cv.p] → exec (.swAddNe n ⟨a, b, c, 1, 2, 0, 0⟩) s = .fault .ecSameX) ∧
      (¬ (x1 : Int) ≡ x2 [ZMOD cv.p] → ¬ (OnCurve cv x1 y1 ∧ OnCurve cv x2 y2) →
        exec (.swAddNe n ⟨a, b, c, 1, 2, 0, 0⟩) s = .fault .ecNotOnCurve)) ∧
    (opEnabled s.cfg (.swDouble n) = true →
      (¬ OnCurve cv x1 y1 → exec (.swDouble n ⟨a, b, 0, 1, 2, 0, 0⟩) s = .fault .ecNotOnCurve) ∧
      (OnCurve cv x1 y1 → 2 * (y1 : Int) ≡ 0 [ZMOD cv.p] →
        exec (.swDouble n ⟨a, b, 0, 1, 2, 0, 0⟩) s = .fault .ecDoubleOrder2)))

/-! ### RISC-V words -/

/-- Every RV32IM word that computes a register from registers, immediates and `pc` does what its RISC-V reading says: the register `rd`
gets the value, and nothing else changes but `pc`; with `rd = x0` only `pc` changes (R475, R480 to R498, R515 to R524; that
such a word is a `NOP`, log 25; the sign of a remainder, log 17). -/
def Obligations.RiscvRegisterInstructionsComputeTheirResult : Prop :=
  ∀ (s : State) (x : BitVec 5 → Word) (i : Instr) (op : Op) (rd : BitVec 5) (v : Word), s.Registers x →
    registerResult s.cfg.divRemSign s.pc x i = some (op, rd, v) →
    (rd ≠ 0 → s.Ready op → ∃ t, exec i s = .next t ∧ Wrote s t (s.pc + 4) 1 (4 * rd.toNat) 4 (byteOf v.toNat)) ∧
    (rd = 0 → s.Ready .phantom → exec i s = .next { s with pc := s.pc + 4 })

/-- The RISC-V loads: `rd` gets the aligned little-endian bytes of space 2 at `rs1 + imm`, extended as each says, and nothing else changes
but `pc`; with `rd = x0` the access is dropped (R475, R499 to R503; log 25). -/
def Obligations.RiscvLoadsReadUserMemory : Prop :=
  ∀ row ∈ ([
      (.rvLb, .loadbRv32, 1, fun v => (BitVec.ofNat 8 v).signExtend 32),
      (.rvLh, .loadhRv32, 2, fun v => (BitVec.ofNat 16 v).signExtend 32),
      (.rvLw, .loadwRv32, 4, fun v => BitVec.ofNat 32 v),
      (.rvLbu, .loadbuRv32, 1, fun v => BitVec.ofNat 32 v),
      (.rvLhu, .loadhuRv32, 2, fun v => BitVec.ofNat 32 v)] :
      List ((BitVec 5 → BitVec 5 → BitVec 12 → Instr) × Op × Nat × (Nat → Word))),
    ∀ (s : State) (x : BitVec 5 → Word) (rd rs1 : BitVec 5) (imm : BitVec 12),
      (∀ q v : Nat, rd ≠ 0 → s.Ready row.2.1 → s.Registers x → (x rs1 + imm.signExtend 32).toInt = q →
        q % row.2.2.1 = 0 → s.Fits q row.2.2.1 → s.HoldsBytes 2 q row.2.2.1 v →
        ∃ t, exec (row.1 rd rs1 imm) s = .next t ∧
          Wrote s t (s.pc + 4) 1 (4 * rd.toNat) 4 (byteOf (row.2.2.2 v).toNat)) ∧
      (s.Ready .phantom → exec (row.1 0 rs1 imm) s = .next { s with pc := s.pc + 4 })

/-- The RISC-V stores and `reveal`: the low bytes of the data register go to the aligned cells at base plus immediate, in space 2 or, for
`reveal`, in space 3; nothing else changes but `pc` (R504 to R506, R531). -/
def Obligations.RiscvStoresWriteMemory : Prop :=
  ∀ row ∈ ([
      (fun data base imm => .rvSb base data imm, .storebRv32, 1, 2),
      (fun data base imm => .rvSh base data imm, .storehRv32, 2, 2),
      (fun data base imm => .rvSw base data imm, .storewRv32, 4, 2),
      (fun data base imm => .rvReveal data base imm, .storewRv32, 4, 3)] :
      List ((BitVec 5 → BitVec 5 → BitVec 12 → Instr) × Op × Nat × Nat)),
    ∀ (s : State) (x : BitVec 5 → Word) (data base : BitVec 5) (imm : BitVec 12) (q : Nat), s.Ready row.2.1 → s.Registers x →
      (x base + imm.signExtend 32).toInt = q → q % row.2.2.1 = 0 → s.Fits q row.2.2.1 →
      ∃ t, exec (row.1 data base imm) s = .next t ∧
        Wrote s t (s.pc + 4) row.2.2.2 q row.2.2.1 (byteOf (x data).toNat)

/-- The RISC-V branches: `pc` moves by the byte offset where the condition on the two registers holds and by 4 where it does not, and
nothing else changes (R507 to R512; log 29). -/
def Obligations.RiscvBranchesSetPc : Prop :=
  ∀ row ∈ ([
      (.rvBeq, .beqRv32, fun x y => decide (x = y)),
      (.rvBne, .bneRv32, fun x y => decide (x ≠ y)),
      (.rvBlt, .bltRv32, fun x y => decide (x.toInt < y.toInt)),
      (.rvBge, .bgeRv32, fun x y => decide (y.toInt ≤ x.toInt)),
      (.rvBltu, .bltuRv32, fun x y => decide (x.toNat < y.toNat)),
      (.rvBgeu, .bgeuRv32, fun x y => decide (y.toNat ≤ x.toNat))] :
      List ((BitVec 5 → BitVec 5 → BitVec 12 → Instr) × Op × (Word → Word → Bool))),
    ∀ (s : State) (x : BitVec 5 → Word) (rs1 rs2 : BitVec 5) (imm : BitVec 12) (q : Nat), s.cfg.Wf →
      opEnabled s.cfg row.2.1 = true → s.Registers x → q < 2 ^ 30 →
      (q : Int) = s.pc + (if row.2.2 (x rs1) (x rs2) then 2 * imm.toInt else 4) →
      exec (row.1 rs1 rs2 imm) s = .next { s with pc := q }

/-- `jal` and `jalr`: `pc` goes to the target, bit 0 of a `jalr` target included, and `rd`, unless it is `x0`, gets the location of the
next instruction; nothing else changes (R513, R514; log 29). -/
def Obligations.RiscvJumpsLinkAndSetPc : Prop :=
  ∀ (s : State) (x : BitVec 5 → Word) (rd rs1 : BitVec 5) (imm : BitVec 12) (off : BitVec 20) (q : Nat), s.cfg.Wf →
    s.Registers x → s.pc < 2 ^ 30 → q < 2 ^ 30 →
    (opEnabled s.cfg .jalRv32 = true → (q : Int) = s.pc + 2 * off.toInt →
      (rd ≠ 0 → ∃ t, exec (.rvJal rd off) s = .next t ∧ Wrote s t q 1 (4 * rd.toNat) 4 (byteOf (s.pc + 4))) ∧
      exec (.rvJal 0 off) s = .next { s with pc := q }) ∧
    (opEnabled s.cfg .jalrRv32 = true → (x rs1 + imm.signExtend 32).toInt = q →
      (rd ≠ 0 → ∃ t, exec (.rvJalr rd rs1 imm) s = .next t ∧ Wrote s t q 1 (4 * rd.toNat) 4 (byteOf (s.pc + 4))) ∧
      exec (.rvJalr 0 rs1 imm) s = .next { s with pc := q })

/-! ### Native kernel -/

/-- `LOAD<W>` and `STORE<W>` move an aligned block of `W` cells between `[a:W]_d` and `[[c]_d + b:W]_e`; nothing else changes but `pc`
(R422, R430, R431). -/
def Obligations.NativeLoadsAndStoresMoveABlock : Prop :=
  ∀ (s : State) (w : Nat) (a b c d e : Nat) (q : Nat), ValidSpace s.cfg d → ValidSpace s.cfg e → s.Fits c 1 →
    q = (s.mem.read ⟨d, c⟩ + b) % s.cfg.p → q % w = 0 → s.Fits q w → a % w = 0 → s.Fits a w →
    (s.Ready (.load w) → ∃ t, exec (.load w ⟨a, b, c, d, e, 0, 0⟩) s = .next t ∧
      Wrote s t (s.pc + 4) d a w (fun k => s.mem.read ⟨e, q + k⟩)) ∧
    (s.Ready (.store w) → ∃ t, exec (.store w ⟨a, b, c, d, e, 0, 0⟩) s = .next t ∧
      Wrote s t (s.pc + 4) e q w (fun k => s.mem.read ⟨d, a + k⟩))

/-- `LOAD2` and `STORE2` move one cell between `[a]_d` and `[[c]_d + [f]_d * g + b]_e`; nothing else changes but `pc` (R432, R433). -/
def Obligations.IndexedLoadsAndStoresMoveACell : Prop :=
  ∀ (s : State) (a b c d e f g : Nat) (q : Nat), ValidSpace s.cfg d → ValidSpace s.cfg e → s.Fits c 1 → s.Fits f 1 →
    s.Fits a 1 → q = (s.mem.read ⟨d, c⟩ + s.mem.read ⟨d, f⟩ * g + b) % s.cfg.p → s.Fits q 1 →
    (s.Ready .load2 → ∃ t, exec (.load2 ⟨a, b, c, d, e, f, g⟩) s = .next t ∧
      Wrote s t (s.pc + 4) d a 1 (fun _ => s.mem.read ⟨e, q⟩)) ∧
    (s.Ready .store2 → ∃ t, exec (.store2 ⟨a, b, c, d, e, f, g⟩) s = .next t ∧
      Wrote s t (s.pc + 4) e q 1 (fun _ => s.mem.read ⟨d, a⟩))

/-- `SHINTW`: the next hint element leaves the stream and goes to `[[c]_d + b]_e`; nothing else changes but `pc`; an empty stream
faults (R199, R434). -/
def Obligations.ShintwStoresTheHint : Prop :=
  ∀ (s : State) (b c d e : Nat) (q : Nat), s.Ready .shintw → ValidSpace s.cfg d → ValidSpace s.cfg e → s.Fits c 1 →
    q = (s.mem.read ⟨d, c⟩ + b) % s.cfg.p →
    (∀ h rest, s.hintStream = h :: rest → s.Fits q 1 → ∃ t, exec (.shintw ⟨0, b, c, d, e, 0, 0⟩) s = .next t ∧
      Wrote { s with hintStream := rest } t (s.pc + 4) e q 1 (fun _ => h)) ∧
    (s.hintStream = [] → exec (.shintw ⟨0, b, c, d, e, 0, 0⟩) s = .fault .hintStreamEmpty)

/-- `JAL`: the location of the next instruction goes to `[a]_d` and `pc` moves by the field element `b`; nothing else changes. A target
outside `[0, 2^30)` faults, and so does an offset outside the range that the configuration sets; in the range of D30 the check of the field
sum is that of the integer sum (R44, R423, R435; the range, log 21). -/
def Obligations.NativeJalLinksAndSetsPc : Prop :=
  ∀ (s : State) (a b d : Nat), s.cfg.Wf → opEnabled s.cfg .jal = true → s.pc < 2 ^ 30 → ValidSpace s.cfg d → s.Fits a 1 →
    (NativeOffset s.cfg b → (s.pc + b) % s.cfg.p < 2 ^ 30 → ∃ t, exec (.jal ⟨a, b, 0, d, 0, 0, 0⟩) s = .next t ∧
      Wrote s t ((s.pc + b) % s.cfg.p) d a 1 (fun _ => s.pc + 4)) ∧
    (NativeOffset s.cfg b → 2 ^ 30 ≤ (s.pc + b) % s.cfg.p → exec (.jal ⟨a, b, 0, d, 0, 0, 0⟩) s = .fault .pcOutOfRange) ∧
    (¬ NativeOffset s.cfg b → exec (.jal ⟨a, b, 0, d, 0, 0, 0⟩) s = .fault .badOperand) ∧
    (BranchOffset s.cfg.p b → ((s.pc + b) % s.cfg.p < 2 ^ 30 ↔
      0 ≤ (s.pc : Int) + centred s.cfg.p b ∧ (s.pc : Int) + centred s.cfg.p b < 2 ^ 30))

/-- `BEQ<W>` and `BNE<W>`: `pc` moves by the field element `c` where the two aligned blocks are equal, respectively where some cell
differs, and by 4 otherwise; nothing else changes. A new `pc` outside `[0, 2^30)` faults, and an offset outside the range that the
configuration sets faults, taken or not (R44, R423, R437, R438; the range, log 21). -/
def Obligations.NativeBranchesCompareBlocks : Prop :=
  ∀ (s : State) (w : Nat) (a b c d e : Nat) (same : Bool), s.cfg.Wf → ValidSpace s.cfg d → ValidSpace s.cfg e →
    a % w = 0 → s.Fits a w → b % w = 0 → s.Fits b w →
    (same = true ↔ ∀ k < w, s.mem.read ⟨d, a + k⟩ = s.mem.read ⟨e, b + k⟩) →
    ∀ row ∈ ([(.beq w, .beq w, same), (.bne w, .bne w, !same)] : List ((Operands → Instr) × Op × Bool)),
      opEnabled s.cfg row.2.1 = true →
      (∀ q, NativeOffset s.cfg c → q = (s.pc + if row.2.2 then c else 4) % s.cfg.p → q < 2 ^ 30 →
        exec (row.1 ⟨a, b, c, d, e, 0, 0⟩) s = .next { s with pc := q }) ∧
      (NativeOffset s.cfg c → 2 ^ 30 ≤ (s.pc + if row.2.2 then c else 4) % s.cfg.p →
        exec (row.1 ⟨a, b, c, d, e, 0, 0⟩) s = .fault .pcOutOfRange) ∧
      (¬ NativeOffset s.cfg c → exec (row.1 ⟨a, b, c, d, e, 0, 0⟩) s = .fault .badOperand)

/-- `PUBLISH`: the public value at index `[a]_d` is fixed to `[b]_e` where it was unset, stays where it already is that value, and faults
where it is another one or the index is too large (R55, R436). -/
def Obligations.PublishFixesThePublicValue : Prop :=
  ∀ (s : State) (a b d e : Nat) (k v : Nat), s.Ready .publish → ValidSpace s.cfg d → ValidSpace s.cfg e → s.Fits a 1 →
    s.Fits b 1 → s.mem.read ⟨d, a⟩ = k → s.mem.read ⟨e, b⟩ = v →
    (s.cfg.numPublicValues ≤ k → exec (.publish ⟨a, b, 0, d, e, 0, 0⟩) s = .fault .publicIndexOutOfRange) ∧
    (k < s.cfg.numPublicValues →
      (s.publicValues.get? k = none → ∃ t, exec (.publish ⟨a, b, 0, d, e, 0, 0⟩) s = .next t ∧
        t = { s with pc := s.pc + 4, publicValues := t.publicValues } ∧
        ∀ j, t.publicValues.get? j = if j = k then some v else s.publicValues.get? j) ∧
      (s.publicValues.get? k = some v → exec (.publish ⟨a, b, 0, d, e, 0, 0⟩) s = .next { s with pc := s.pc + 4 }) ∧
      (∀ u, s.publicValues.get? k = some u → u ≠ v → exec (.publish ⟨a, b, 0, d, e, 0, 0⟩) s = .fault .publishMismatch))

/-- `CASTF`: a field element of at most 30 bits goes to `[a:4]_d` as its four little-endian bytes, the top one below 64; a larger one
faults (R439). -/
def Obligations.CastfWritesTheBytes : Prop :=
  ∀ (s : State) (a b d e : Nat) (v : Nat), s.Ready .castf → ValidSpace s.cfg d → ValidSpace s.cfg e → s.Fits b 1 →
    s.mem.read ⟨e, b⟩ = v →
    (v < 2 ^ 30 → a % 4 = 0 → s.Fits a 4 → ∃ t, exec (.castf ⟨a, b, 0, d, e, 0, 0⟩) s = .next t ∧
      Wrote s t (s.pc + 4) d a 4 (byteOf v) ∧ t.mem.read ⟨d, a + 3⟩ < 64) ∧
    (2 ^ 30 ≤ v → exec (.castf ⟨a, b, 0, d, e, 0, 0⟩) s = .fault .castfRange)

/-- `ADDF`, `SUBF`, `MULF` and `DIVF`: the field operation on `[b]_d` and on `[c]_e`, or on `c` itself for `e = 0`, goes to `[a]_d`; the
quotient times the divisor is the dividend, and division by zero faults; nothing else changes but `pc` (R440 to R444). -/
def Obligations.FieldArithmeticWritesItsResult : Prop :=
  ∀ (s : State) (a b c d e : Nat) (x y : Nat), ValidSpace s.cfg d → s.Fits a 1 → s.Fits b 1 → s.mem.read ⟨d, b⟩ = x →
    (e = 0 ∧ y = c ∨ ValidSpace s.cfg e ∧ s.Fits c 1 ∧ s.mem.read ⟨e, c⟩ = y) →
    (s.Ready .addf → ∃ t, exec (.addf ⟨a, b, c, d, e, 0, 0⟩) s = .next t ∧
      Wrote s t (s.pc + 4) d a 1 (fun _ => (x + y) % s.cfg.p)) ∧
    (s.Ready .subf → ∃ t, exec (.subf ⟨a, b, c, d, e, 0, 0⟩) s = .next t ∧
      Wrote s t (s.pc + 4) d a 1 (fun _ => (((x : Int) - y) % s.cfg.p).toNat)) ∧
    (s.Ready .mulf → ∃ t, exec (.mulf ⟨a, b, c, d, e, 0, 0⟩) s = .next t ∧
      Wrote s t (s.pc + 4) d a 1 (fun _ => x * y % s.cfg.p)) ∧
    (s.Ready .divf → s.cfg.p.Prime → 0 < y → y < s.cfg.p → ∃ t z, exec (.divf ⟨a, b, c, d, e, 0, 0⟩) s = .next t ∧
      z < s.cfg.p ∧ z * y % s.cfg.p = x % s.cfg.p ∧ Wrote s t (s.pc + 4) d a 1 (fun _ => z)) ∧
    (s.Ready .divf → y = 0 → exec (.divf ⟨a, b, c, d, e, 0, 0⟩) s = .fault .divByZeroF)

/-- `FE4ADD`, `FE4SUB`, `BBE4MUL` and `BBE4DIV`: the operation of the quartic extension `x^4 = 11` over BabyBear goes to `[a:4]_d`; the quotient
times the divisor is the dividend, and division by zero faults; nothing else changes but `pc` (R450 to R454; the prime of BabyBear is PRESUMED, log 3). -/
def Obligations.ExtensionArithmeticWritesItsResult : Prop :=
  ∀ (s : State) (a b c d e : Nat) (x0 x1 x2 x3 y0 y1 y2 y3 : Nat), ValidSpace s.cfg d → ValidSpace s.cfg e →
    a % 4 = 0 → s.Fits a 4 → b % 4 = 0 → s.Fits b 4 → c % 4 = 0 → s.Fits c 4 →
    s.mem.readCells d b 4 = [x0, x1, x2, x3] → s.mem.readCells e c 4 = [y0, y1, y2, y3] →
    x0 < babyBear → x1 < babyBear → x2 < babyBear → x3 < babyBear →
    y0 < babyBear → y1 < babyBear → y2 < babyBear → y3 < babyBear →
    let mod (v : Int) : Nat := (v % babyBear).toNat
    let times (z0 z1 z2 z3 w0 w1 w2 w3 : Int) : List Nat :=
      [mod (z0 * w0 + 11 * (z1 * w3 + z2 * w2 + z3 * w1)), mod (z0 * w1 + z1 * w0 + 11 * (z2 * w3 + z3 * w2)),
       mod (z0 * w2 + z1 * w1 + z2 * w0 + 11 * (z3 * w3)), mod (z0 * w3 + z1 * w2 + z2 * w1 + z3 * w0)]
    (s.Ready .fe4add → ∃ t, exec (.fe4add ⟨a, b, c, d, e, 0, 0⟩) s = .next t ∧ Wrote s t (s.pc + 4) d a 4
      ([mod (x0 + y0), mod (x1 + y1), mod (x2 + y2), mod (x3 + y3)].getD · 0)) ∧
    (s.Ready .fe4sub → ∃ t, exec (.fe4sub ⟨a, b, c, d, e, 0, 0⟩) s = .next t ∧ Wrote s t (s.pc + 4) d a 4
      ([mod (x0 - y0), mod (x1 - y1), mod (x2 - y2), mod (x3 - y3)].getD · 0)) ∧
    (s.Ready .bbe4mul → ∃ t, exec (.bbe4mul ⟨a, b, c, d, e, 0, 0⟩) s = .next t ∧
      Wrote s t (s.pc + 4) d a 4 ((times x0 x1 x2 x3 y0 y1 y2 y3).getD · 0)) ∧
    (s.Ready .bbe4div → ¬ (y0 = 0 ∧ y1 = 0 ∧ y2 = 0 ∧ y3 = 0) →
      ∃ (t : State) (z0 z1 z2 z3 : Nat), exec (.bbe4div ⟨a, b, c, d, e, 0, 0⟩) s = .next t ∧
        times z0 z1 z2 z3 y0 y1 y2 y3 = [x0, x1, x2, x3] ∧
        Wrote s t (s.pc + 4) d a 4 ([z0, z1, z2, z3].getD · 0)) ∧
    (s.Ready .bbe4div → y0 = 0 ∧ y1 = 0 ∧ y2 = 0 ∧ y3 = 0 →
      exec (.bbe4div ⟨a, b, c, d, e, 0, 0⟩) s = .fault .divByZeroF)

/-- `COMPRESS_POSEIDON2` and `PERM_POSEIDON2`: the first eight, respectively all sixteen, elements of the permutation of the sixteen cells
read go to the cells that `[a]_d` points to, whatever permutation it is; nothing else changes but `pc` (R460 to R462; logs 15
and 26). -/
def Obligations.PoseidonWritesThePermutation : Prop :=
  ∀ (s : State) (a b c d e : Nat) (qa qb qc : Nat), ValidSpace s.cfg d → ValidSpace s.cfg e → s.Fits a 1 → s.Fits b 1 →
    s.mem.read ⟨d, a⟩ = qa → s.mem.read ⟨d, b⟩ = qb → qa % 8 = 0 → qb % 8 = 0 →
    (s.Ready .compressPoseidon2 → s.Fits c 1 → s.mem.read ⟨d, c⟩ = qc → qc % 8 = 0 → s.Fits qa 8 → s.Fits qb 8 → s.Fits qc 8 →
      ∃ t, exec (.compressPoseidon2 ⟨a, b, c, d, e, 0, 0⟩) s = .next t ∧
        Wrote s t (s.pc + 4) e qa 8 (fun k => if h : k < 16 then
          Config.poseidon2Perm0 (s.mem.readCells e qb 8 ++ s.mem.readCells e qc 8) ⟨k, h⟩ % s.cfg.p else 0)) ∧
    (s.Ready .permPoseidon2 → s.Fits qa 16 → s.Fits qb 16 →
      ∃ t, exec (.permPoseidon2 ⟨a, b, 0, d, e, 0, 0⟩) s = .next t ∧
        Wrote s t (s.pc + 4) e qa 16 (fun k => if h : k < 16 then
          Config.poseidon2Perm0 (s.mem.readCells e qb 16) ⟨k, h⟩ % s.cfg.p else 0))

/-! ### Accesses -/

/-- A block access: an address space that is not supported or is 0, then a block outside the pointer range, then one that is not aligned
faults, in this order; otherwise the cells are read, respectively the named cells and no others written. A register read answers the
register's value, and a register cell of 256 or more faults with `NotByte` (R26, R60, R83, R84, R88, R89). -/
def Obligations.BlockAccessesCheckThenAct : Prop :=
  ∀ (s : State) (sp q : Nat) (l : List Nat),
    (¬ ValidSpace s.cfg sp →
      s.blockRead sp q l.length = .error .badAddressSpace ∧ s.blockWrite sp q l = .error .badAddressSpace) ∧
    (ValidSpace s.cfg sp → ¬ s.Fits q l.length →
      s.blockRead sp q l.length = .error .pointerOutOfRange ∧ s.blockWrite sp q l = .error .pointerOutOfRange) ∧
    (ValidSpace s.cfg sp → s.Fits q l.length → ¬ (l.length ∈ [1, 2, 4, 8, 16, 32, 64] ∧ q % l.length = 0) →
      s.blockRead sp q l.length = .error .misaligned ∧ s.blockWrite sp q l = .error .misaligned) ∧
    (ValidSpace s.cfg sp → s.Fits q l.length → l.length ∈ [1, 2, 4, 8, 16, 32, 64] → q % l.length = 0 →
      (∃ r, s.blockRead sp q l.length = .ok r ∧ r.length = l.length ∧
        ∀ k (h : k < r.length), r[k] = s.mem.read ⟨sp, q + k⟩) ∧
      ∃ t, s.blockWrite sp q l = .ok t ∧ Wrote s t s.pc sp q l.length (l.getD · 0)) ∧
    (s.cfg.Wf → (∀ x, s.Holds q x → s.reg32 q = .ok x) ∧
      (s.RegPtr q → (∃ k < 4, 256 ≤ s.mem.read ⟨1, q + k⟩) → s.reg32 q = .error .notByte))
end

