-- ==== Sys2Proof/Laws/BabyBear.lean ====
section
/-!
SUPPORT. BabyBear is a prime, and neither 11 nor -11 is a square modulo it: the facts of number theory that the quartic extension and the
launch configuration rest on.
-/

namespace Sys2Proof

/-- `g ^ e` modulo `p`, by repeated squaring over the bits of `e`. -/
def powMod (g p : Nat) : Nat → Nat → Nat
  | 0, _ => 1 % p
  | k + 1, e => let r := powMod g p k (e / 2); if e % 2 = 0 then r * r % p else r * r % p * g % p

theorem powMod_eq (g p : Nat) {k e : Nat} (h : e < 2 ^ k) : powMod g p k e = g ^ e % p := by
  induction k generalizing e with
  | zero => obtain rfl : e = 0 := by simpa using h
            simp [powMod]
  | succ k ih =>
    have h2 : e / 2 < 2 ^ k := by rw [pow_succ] at h; omega
    have hsq : (g ^ (e / 2) % p) * (g ^ (e / 2) % p) % p = g ^ (2 * (e / 2)) % p := by
      rw [← Nat.mul_mod, ← pow_add, two_mul]
    simp only [powMod, ih h2, hsq]
    split_ifs with h0
    · congr 2; omega
    · rw [Nat.mod_mul_mod, ← pow_succ]; congr 2; omega

theorem zmod_pow {p : Nat} (g : Nat) {k e m : Nat} (hk : e < 2 ^ k) (h : powMod g p k e = m) : ((g : Nat) : ZMod p) ^ e = (m : Nat) := by
  rw [← h, powMod_eq g p hk, ZMod.natCast_mod]
  push_cast; rfl

theorem zmod_ne {p m n : Nat} (hm : m < p) (hn : n < p) (h : m ≠ n) : ((m : Nat) : ZMod p) ≠ (n : Nat) := by
  intro he
  rw [ZMod.natCast_eq_natCast_iff] at he
  exact h (by simpa [Nat.ModEq, Nat.mod_eq_of_lt hm, Nat.mod_eq_of_lt hn] using he)

/-- 31 generates the units, so that `2^31 - 2^27 + 1` is a prime. -/
theorem babyBear_prime : babyBear.Prime := by
  refine lucas_primality babyBear ((31 : Nat) : ZMod babyBear) ?_ ?_
  · rw [zmod_pow 31 (k := 31) (m := 1) (by decide) (by decide +kernel)]; simp
  · intro q hq hd
    have h1 : (babyBear - 1 : Nat) = 2 ^ 27 * (3 * 5) := by decide
    have key : ∀ e m : Nat, e < 2 ^ 31 → powMod 31 babyBear 31 e = m → m < babyBear → m ≠ 1 →
        (((31 : Nat) : ZMod babyBear)) ^ e ≠ 1 := by
      intro e m he hm hlt hne
      rw [zmod_pow 31 he hm]
      have := zmod_ne (p := babyBear) hlt (show 1 < babyBear by decide) hne
      simpa using this
    rw [h1] at hd
    rcases (Nat.Prime.dvd_mul hq).1 hd with h | h
    · obtain rfl := (Nat.prime_dvd_prime_iff_eq hq Nat.prime_two).1 (hq.dvd_of_dvd_pow h)
      exact key _ 2013265920 (by decide) (by decide +kernel) (by decide) (by decide)
    · rcases (Nat.Prime.dvd_mul hq).1 h with h | h
      · obtain rfl := (Nat.prime_dvd_prime_iff_eq hq Nat.prime_three).1 h
        exact key _ (powMod 31 babyBear 31 ((babyBear - 1) / 3)) (by decide) rfl (by decide +kernel) (by decide +kernel)
      · obtain rfl := (Nat.prime_dvd_prime_iff_eq hq Nat.prime_five).1 h
        exact key _ (powMod 31 babyBear 31 ((babyBear - 1) / 5)) (by decide) rfl (by decide +kernel) (by decide +kernel)

/-- 11 is not a square modulo BabyBear (Euler). -/
theorem eleven_not_square {r t : ZMod babyBear} (h : r ^ 2 = 11 * t ^ 2) : r = 0 ∧ t = 0 := by
  have := Fact.mk babyBear_prime
  by_cases ht : t = 0
  · subst ht; simpa using h
  · exfalso
    have hs : IsSquare ((11 : Nat) : ZMod babyBear) := ⟨r / t, by
      field_simp
      push_cast
      linear_combination -h⟩
    have h11 : ((11 : Nat) : ZMod babyBear) ≠ 0 := by
      have := zmod_ne (p := babyBear) (m := 11) (n := 0) (by decide) (by decide) (by decide)
      simpa using this
    have he := (ZMod.euler_criterion babyBear h11).1 hs
    rw [zmod_pow 11 (k := 31) (m := 2013265920) (by decide) (by decide +kernel)] at he
    exact zmod_ne (p := babyBear) (m := 2013265920) (n := 1) (by decide) (by decide) (by decide) (by simpa using he)

/-- -11 is not a square modulo BabyBear. -/
theorem minus_eleven_not_square {r t : ZMod babyBear} (h : r ^ 2 = -(11 * t ^ 2)) : r = 0 ∧ t = 0 := by
  have := Fact.mk babyBear_prime
  by_cases ht : t = 0
  · subst ht; simpa using h
  · exfalso
    have e : ((2013265910 : Nat) : ZMod babyBear) = -11 := by
      have : ((2013265910 + 11 : Nat) : ZMod babyBear) = ((0 : Nat) : ZMod babyBear) := by
        rw [ZMod.natCast_eq_natCast_iff]; decide
      push_cast at this ⊢
      linear_combination this
    have hs : IsSquare ((2013265910 : Nat) : ZMod babyBear) := ⟨r / t, by
      rw [e]
      field_simp
      linear_combination -h⟩
    have h11 : ((2013265910 : Nat) : ZMod babyBear) ≠ 0 := by
      have := zmod_ne (p := babyBear) (m := 2013265910) (n := 0) (by decide) (by decide) (by decide)
      simpa using this
    have he := (ZMod.euler_criterion babyBear h11).1 hs
    rw [zmod_pow 2013265910 (k := 31) (m := 2013265920) (by decide) (by decide +kernel)] at he
    exact zmod_ne (p := babyBear) (m := 2013265920) (n := 1) (by decide) (by decide) (by decide) (by simpa using he)

end Sys2Proof
end

