-- ==== Sys2Proof/Laws/Bytes.lean ====
section
/-!
SUPPORT. Byte order: the number of a byte list and the bytes of a number are inverse to each other.
-/

namespace Sys2Proof.Machine

@[simp] theorem leBytes_length (v n : Nat) : (leBytes v n).length = n := by
  induction n generalizing v with
  | zero => rfl
  | succ n ih => simp [leBytes, ih]

theorem lt_of_mem_leBytes {v n x : Nat} (h : x ∈ leBytes v n) : x < 256 := by
  induction n generalizing v with
  | zero => simp [leBytes] at h
  | succ n ih =>
    rcases List.mem_cons.1 h with h | h
    · rw [h]; exact Nat.mod_lt _ (by norm_num)
    · exact ih h

theorem leNat_lt {l : List Nat} (h : ∀ x ∈ l, x < 256) : leNat l < 256 ^ l.length := by
  induction l with
  | nil => simp [leNat]
  | cons b l ih =>
    have h1 := ih fun x hx => h x (List.mem_cons_of_mem _ hx)
    have h2 := h b (by simp)
    simp only [leNat, List.length_cons, pow_succ]
    omega

/-- The number of the low bytes of `v`. -/
theorem leNat_leBytes (v n : Nat) : leNat (leBytes v n) = v % 256 ^ n := by
  induction n generalizing v with
  | zero => simp [leBytes, leNat, Nat.mod_one]
  | succ n ih =>
    rw [leBytes, leNat, ih, pow_succ, Nat.mul_comm (256 ^ n) 256, Nat.mod_mul]

/-- The bytes of the number of a byte list. -/
theorem leBytes_leNat {l : List Nat} (h : ∀ x ∈ l, x < 256) : leBytes (leNat l) l.length = l := by
  induction l with
  | nil => rfl
  | cons b l ih =>
    have h1 := ih fun x hx => h x (List.mem_cons_of_mem _ hx)
    have h2 := h b (by simp)
    simp only [leNat, List.length_cons, leBytes]
    have e1 : (b + 256 * leNat l) % 256 = b := by omega
    have e2 : (b + 256 * leNat l) / 256 = leNat l := by omega
    rw [e1, e2, h1]

theorem leBytes_getElem (v n i : Nat) (h : i < (leBytes v n).length) : (leBytes v n)[i] = v / 256 ^ i % 256 := by
  induction n generalizing v i with
  | zero => simp at h
  | succ n ih =>
    cases i with
    | zero => simp [leBytes]
    | succ i =>
      simp only [leBytes, List.getElem_cons_succ]
      rw [ih, Nat.div_div_eq_div_mul, pow_succ, Nat.mul_comm]

/-- A list of `n` bytes is the bytes of a number below `256^n`, and of no other. -/
theorem leBytes_eq_iff {l : List Nat} {v n : Nat} (hv : v < 256 ^ n) :
    l = leBytes v n ↔ l.length = n ∧ (∀ x ∈ l, x < 256) ∧ leNat l = v := by
  constructor
  · rintro rfl
    exact ⟨by simp, fun x hx => lt_of_mem_leBytes hx, by rw [leNat_leBytes, Nat.mod_eq_of_lt hv]⟩
  · rintro ⟨rfl, h, rfl⟩
    exact (leBytes_leNat h).symm

/-- The first bytes of a number. -/
theorem leBytes_take (v : Nat) {k n : Nat} (h : k ≤ n) : (leBytes v n).take k = leBytes v k := by
  apply List.ext_getElem
  · simp [h]
  · intro i h1 h2
    rw [List.getElem_take, leBytes_getElem, leBytes_getElem]

end Sys2Proof.Machine
end

