-- ==== Sys2Proof/Laws/Memory.lean ====
section
/-!
SUPPORT. The laws of memory and of the partial maps: a read after a write, and that every operation keeps the canonical form.
-/

namespace Sys2Proof.Machine

/-! ### One cell -/

theorem Memory.read_insert (m : Memory) (k : Loc) (v : Nat) (j : Loc) :
    (Memory.insert m k v).read j = if k = j then v else m.read j := by
  induction m with
  | nil => simp [Memory.insert, Memory.read]
  | cons x m ih =>
    obtain ⟨l, w⟩ := x
    simp only [Memory.insert]
    by_cases h1 : l.Before k
    · have hlk : l ≠ k := by rintro rfl; rcases h1 with h | ⟨_, h⟩ <;> omega
      rw [if_pos h1]; simp only [Memory.read]; rw [ih]
      by_cases hj : l = j
      · subst hj; simp [Ne.symm hlk]
      · simp [hj]
    · rw [if_neg h1]
      by_cases h2 : l = k
      · subst h2; simp only [if_true, Memory.read]; split_ifs <;> rfl
      · rw [if_neg h2]; simp only [Memory.read]

theorem Memory.read_filter (m : Memory) (k j : Loc) :
    Memory.read (m.filter (fun x => x.1 ≠ k)) j = if k = j then 0 else m.read j := by
  induction m with
  | nil => simp [Memory.read]
  | cons x m ih =>
    obtain ⟨l, w⟩ := x
    by_cases hl : l = k
    · subst hl; simp only [ne_eq, decide_not] at ih
      simp [Memory.read, ih]
      split_ifs <;> rfl
    · simp only [ne_eq, decide_not] at ih
      simp [hl, Memory.read, ih]
      by_cases hj : l = j
      · subst hj; simp [Ne.symm hl]
      · simp [hj]

/-- Reading after writing one cell. -/
theorem Memory.read_write (m : Memory) (k : Loc) (v : Nat) (j : Loc) :
    (m.write k v).read j = if k = j then v else m.read j := by
  unfold Memory.write
  by_cases hv : v = 0
  · rw [if_pos hv, Memory.read_filter, hv]
  · rw [if_neg hv, Memory.read_insert]

theorem Memory.mem_insert {m : Memory} {k : Loc} {v : Nat} {x : Loc × Nat} (h : x ∈ Memory.insert m k v) :
    x = (k, v) ∨ x ∈ m := by
  induction m with
  | nil => simpa [Memory.insert] using h
  | cons y m ih =>
    obtain ⟨l, w⟩ := y
    simp only [Memory.insert] at h
    split_ifs at h
    · rcases List.mem_cons.1 h with h | h
      · exact .inr (by simp [h])
      · rcases ih h with h | h
        · exact .inl h
        · exact .inr (by simp [h])
    · rcases List.mem_cons.1 h with h | h
      · exact .inl h
      · exact .inr (by simp [h])
    · rcases List.mem_cons.1 h with h | h
      · exact .inl h
      · exact .inr h

/-- An entry of the memory after a write is the one written or an old one. -/
theorem Memory.mem_write {m : Memory} {k : Loc} {v : Nat} {x : Loc × Nat} (h : x ∈ m.write k v) :
    x = (k, v) ∨ x ∈ m := by
  unfold Memory.write at h
  split_ifs at h
  · exact .inr (List.mem_of_mem_filter h)
  · exact Memory.mem_insert h

theorem Loc.Before.trans {a b c : Loc} (h : a.Before b) (h' : b.Before c) : a.Before c := by
  rcases h with h | ⟨h, g⟩ <;> rcases h' with h' | ⟨h', g'⟩
  · exact .inl (by omega)
  · exact .inl (by omega)
  · exact .inl (by omega)
  · exact .inr ⟨by omega, by omega⟩

theorem Memory.insert_wf {m : Memory} (h : m.wf) {k : Loc} {v : Nat} (hv : v ≠ 0) : (Memory.insert m k v).wf := by
  obtain ⟨hs, h0⟩ := h
  refine ⟨?_, fun x hx => ?_⟩
  · clear h0
    induction m with
    | nil => simp [Memory.insert]
    | cons y m ih =>
      obtain ⟨l, w⟩ := y
      rw [List.pairwise_cons] at hs
      simp only [Memory.insert]
      split_ifs with h1 h2
      · refine List.pairwise_cons.2 ⟨fun x hx => ?_, ih hs.2⟩
        rcases Memory.mem_insert hx with rfl | hx
        · exact h1
        · exact hs.1 x hx
      · subst h2; exact List.pairwise_cons.2 ⟨hs.1, hs.2⟩
      · have hkl : k.Before l := by
          unfold Loc.Before at h1 ⊢
          have : ¬ (l.space = k.space ∧ l.ptr = k.ptr) := by
            rintro ⟨a, b⟩; exact h2 (by cases l; cases k; simp_all)
          omega
        refine List.pairwise_cons.2 ⟨fun x hx => ?_, List.pairwise_cons.2 hs⟩
        rcases List.mem_cons.1 hx with rfl | hx
        · exact hkl
        · exact hkl.trans (hs.1 x hx)
  · rcases Memory.mem_insert hx with rfl | hx
    · exact hv
    · exact h0 x hx

/-- A write keeps the canonical form. -/
theorem Memory.write_wf {m : Memory} (h : m.wf) (k : Loc) (v : Nat) : (m.write k v).wf := by
  unfold Memory.write
  split_ifs with hv
  · exact ⟨h.1.filter _, fun x hx => h.2 x (List.mem_of_mem_filter hx)⟩
  · exact Memory.insert_wf h hv

/-- What a read answers is the content of an entry, or 0. -/
theorem Memory.read_mem (m : Memory) (k : Loc) : m.read k = 0 ∨ (k, m.read k) ∈ m := by
  induction m with
  | nil => exact .inl rfl
  | cons x m ih =>
    obtain ⟨l, w⟩ := x
    simp only [Memory.read]
    split_ifs with h
    · subst h; exact .inr (by simp)
    · exact ih.imp_right (List.mem_cons_of_mem _)

/-- In canonical form the listed entries are the cells that do not hold 0. -/
theorem Memory.wf.mem_iff {m : Memory} (h : m.wf) (k : Loc) (v : Nat) : (k, v) ∈ m ↔ v ≠ 0 ∧ m.read k = v := by
  constructor
  · intro hm
    refine ⟨h.2 _ hm, ?_⟩
    obtain ⟨hs, -⟩ := h
    induction m with
    | nil => simp at hm
    | cons y m ih =>
      obtain ⟨l, w⟩ := y
      rw [List.pairwise_cons] at hs
      simp only [Memory.read]
      rcases List.mem_cons.1 hm with he | hm
      · cases he; simp
      · have hlk := hs.1 _ hm
        have : l ≠ k := by rintro rfl; rcases hlk with h | ⟨_, h⟩ <;> simp at h
        rw [if_neg this]; exact ih hm hs.2
  · rintro ⟨hv, rfl⟩
    exact (Memory.read_mem m k).resolve_left hv

/-! ### Rows of cells -/

@[simp] theorem Memory.readCells_length (m : Memory) (s q n : Nat) : (m.readCells s q n).length = n := by
  simp [Memory.readCells]

theorem Memory.readCells_getElem (m : Memory) (s q n i : Nat) (h : i < (m.readCells s q n).length) :
    (m.readCells s q n)[i] = m.read ⟨s, q + i⟩ := by
  simp [Memory.readCells]

/-- Rows are read from the cells alone. -/
theorem Memory.readCells_congr {m m' : Memory} {s q n : Nat} (h : ∀ i < n, m'.read ⟨s, q + i⟩ = m.read ⟨s, q + i⟩) :
    m'.readCells s q n = m.readCells s q n := by
  simp only [Memory.readCells]
  exact List.map_congr_left fun i hi => h i (List.mem_range.1 hi)

theorem Memory.mem_readCells {m : Memory} {s q n : Nat} {v : Nat} :
    v ∈ m.readCells s q n ↔ ∃ i < n, m.read ⟨s, q + i⟩ = v := by
  simp [Memory.readCells]

/-- Reading after writing a row: the cells of the row hold its elements, every other cell is as before. -/
theorem Memory.read_writeCells (m : Memory) (s q : Nat) (l : List Nat) (k : Loc) :
    (m.writeCells s q l).read k =
      if k.space = s ∧ q ≤ k.ptr ∧ k.ptr < q + l.length then l.getD (k.ptr - q) 0 else m.read k := by
  induction l generalizing m q with
  | nil =>
    simp only [Memory.writeCells, List.length_nil]
    rw [if_neg (by omega)]
  | cons v vs ih =>
    rw [Memory.writeCells, ih, Memory.read_write]
    simp only [List.length_cons]
    obtain ⟨ks, kp⟩ := k
    simp only [Loc.mk.injEq]
    by_cases hs : ks = s
    · subst hs
      simp only [true_and]
      by_cases h1 : q + 1 ≤ kp ∧ kp < q + 1 + vs.length
      · rw [if_pos h1, if_pos (by omega)]
        have : kp - q = (kp - (q + 1)) + 1 := by omega
        rw [this, List.getD_cons_succ]
      · rw [if_neg h1]
        by_cases h2 : q = kp
        · subst h2; simp
        · rw [if_neg h2, if_neg (by omega)]
    · simp [hs, Ne.symm hs]

/-- Writing a row keeps the canonical form. -/
theorem Memory.writeCells_wf {m : Memory} (h : m.wf) (s q : Nat) (l : List Nat) : (m.writeCells s q l).wf := by
  induction l generalizing m q with
  | nil => exact h
  | cons v vs ih => exact ih (Memory.write_wf h _ _) _

/-- An entry of the memory after writing a row is an old one, or a cell of the row with an element of it. -/
theorem Memory.mem_writeCells {m : Memory} {s q : Nat} {l : List Nat} {x : Loc × Nat} (h : x ∈ m.writeCells s q l) :
    x ∈ m ∨ (x.1.space = s ∧ q ≤ x.1.ptr ∧ x.1.ptr < q + l.length ∧ x.2 ∈ l) := by
  induction l generalizing m q with
  | nil => exact .inl h
  | cons v vs ih =>
    rcases ih h with h | ⟨h1, h2, h3, h4⟩
    · rcases Memory.mem_write h with rfl | h
      · exact .inr ⟨rfl, by simp, by simp, by simp⟩
      · exact .inl h
    · exact .inr ⟨h1, by omega, by simp; omega, by simp [h4]⟩

/-- Reading the row just written. -/
theorem Memory.readCells_writeCells (m : Memory) (s q : Nat) (l : List Nat) :
    (m.writeCells s q l).readCells s q l.length = l := by
  apply List.ext_getElem
  · simp
  · intro i h1 h2
    rw [Memory.readCells_getElem, Memory.read_writeCells]
    simp [h2]

/-! ### Partial maps -/

/-- Looking up after an insertion. -/
theorem NatMap.get?_insert {α : Type} (m : NatMap α) (k : Nat) (x : α) (j : Nat) :
    (m.insert k x).get? j = if k = j then some x else m.get? j := by
  induction m with
  | nil => simp [NatMap.insert, NatMap.get?]
  | cons y m ih =>
    obtain ⟨l, w⟩ := y
    simp only [NatMap.insert]
    split_ifs with h1 h2 h3 h4 h5 <;> simp only [NatMap.get?]
    · rw [ih, if_pos h2, if_neg (by omega)]
    · rw [ih, if_neg h2]
    · subst h3; rw [if_pos h4]
    · subst h3; simp [h4]
    · rw [if_pos h5]
    · rw [if_neg h5]

theorem NatMap.mem_insert {α : Type} {m : NatMap α} {k : Nat} {x : α} {y : Nat × α} (h : y ∈ m.insert k x) :
    y = (k, x) ∨ y ∈ m := by
  induction m with
  | nil => simpa [NatMap.insert] using h
  | cons z m ih =>
    obtain ⟨l, w⟩ := z
    simp only [NatMap.insert] at h
    split_ifs at h
    · rcases List.mem_cons.1 h with h | h
      · exact .inr (by simp [h])
      · exact (ih h).imp_right (List.mem_cons_of_mem _)
    · exact (List.mem_cons.1 h).imp_right (List.mem_cons_of_mem _)
    · exact List.mem_cons.1 h

/-- An insertion keeps the canonical form. -/
theorem NatMap.insert_wf {α : Type} {m : NatMap α} (h : m.wf) (k : Nat) (x : α) : (m.insert k x).wf := by
  induction m with
  | nil => simp [NatMap.insert, NatMap.wf]
  | cons z m ih =>
    obtain ⟨l, w⟩ := z
    have hs := List.pairwise_cons.1 h
    simp only [NatMap.insert]
    split_ifs with h1 h2
    · refine List.pairwise_cons.2 ⟨fun y hy => ?_, ih hs.2⟩
      rcases NatMap.mem_insert hy with rfl | hy
      · exact h1
      · exact hs.1 y hy
    · subst h2; exact List.pairwise_cons.2 ⟨hs.1, hs.2⟩
    · refine List.pairwise_cons.2 ⟨fun y hy => ?_, h⟩
      rcases List.mem_cons.1 hy with rfl | hy
      · show k < l; omega
      · have : l < y.1 := hs.1 y hy
        show k < y.1; omega

end Sys2Proof.Machine
end

