-- ==== Sys2Proof/Laws/Outcome.lean ====
section
/-!
SUPPORT. Taking an instruction's checks apart: when a chain of checks and reads ends without a fault.
-/

namespace Sys2Proof.Machine

/-- A chain succeeds where its parts do. -/
theorem bind_ok {α β : Type} {x : Except Fault α} {f : α → Except Fault β} {b : β} :
    (x >>= f) = .ok b ↔ ∃ a, x = .ok a ∧ f a = .ok b := by
  cases x with
  | ok a => exact ⟨fun h => ⟨a, rfl, h⟩, by rintro ⟨_, h, h'⟩; cases h; exact h'⟩
  | error e => exact ⟨fun h => (by cases h), by rintro ⟨_, h, _⟩; cases h⟩

theorem ok_bind {α β : Type} {a : α} {f : α → Except Fault β} : ((.ok a : Except Fault α) >>= f) = f a := rfl

theorem error_bind {α β : Type} {e : Fault} {f : α → Except Fault β} : ((.error e : Except Fault α) >>= f) = .error e := rfl

theorem pure_ok {α : Type} {a b : α} : (pure a : Except Fault α) = .ok b ↔ a = b :=
  ⟨fun h => by cases h; rfl, fun h => by rw [h]; rfl⟩

/-- A check succeeds where its condition holds. -/
theorem require_ok {c : Prop} [Decidable c] {cause : Fault} {u : Unit} : require c cause = .ok u ↔ c := by
  unfold require
  split_ifs with h
  · exact ⟨fun _ => h, fun _ => rfl⟩
  · exact ⟨fun h' => (by cases h'), fun h' => absurd h' h⟩

theorem require_of {c : Prop} [Decidable c] {cause : Fault} (h : c) : require c cause = .ok () := if_pos h

theorem require_not {c : Prop} [Decidable c] {cause : Fault} (h : ¬ c) : require c cause = .error cause := if_neg h

/-- An instruction has a successor where its rule runs to the end. -/
theorem outcome_next {r : Except Fault State} {t : State} : outcome r = .next t ↔ r = .ok t := by
  cases r <;> simp [outcome]

theorem outcome_fault {r : Except Fault State} {e : Fault} : outcome r = .fault e ↔ r = .error e := by
  cases r <;> simp [outcome]

theorem outcome_not_refused {r : Except Fault State} {e : Refusal} : outcome r ≠ .refused e := by
  cases r <;> simp [outcome]

end Sys2Proof.Machine
end

