-- ==== Sys2Proof/Laws/Ops.lean ====
section
/-!
SUPPORT. One lemma for each shared operation: when it succeeds, and everything it then answers.
-/

namespace Sys2Proof.Machine

/-! ### Accesses -/

/-- A range of cells in a valid space, below the pointer bound (R88). -/
abbrev State.RangeOk (st : State) (s q n : Nat) : Prop := ValidSpace st.cfg s ∧ q + n ≤ 2 ^ st.cfg.pointerMaxBits

/-- A block: a range of a supported size, aligned to it (R89). -/
abbrev State.BlockOk (st : State) (s q n : Nat) : Prop := st.RangeOk s q n ∧ n ∈ supportedBlocks ∧ q % n = 0

theorem checkRange_ok {st : State} {s q n : Nat} {u : Unit} : st.checkRange s q n = .ok u ↔ st.RangeOk s q n := by
  simp only [State.checkRange, bind_ok, require_ok]
  exact ⟨fun ⟨_, h, h'⟩ => ⟨h, h'⟩, fun ⟨h, h'⟩ => ⟨(), h, h'⟩⟩

theorem checkBlock_ok {st : State} {s q n : Nat} {u : Unit} : st.checkBlock s q n = .ok u ↔ st.BlockOk s q n := by
  simp only [State.checkBlock, bind_ok, require_ok, checkRange_ok]
  exact ⟨fun ⟨_, h, h'⟩ => ⟨h, h'⟩, fun ⟨h, h'⟩ => ⟨(), h, h'⟩⟩

theorem memRead_ok {st : State} {s q n : Nat} {l : List Nat} :
    st.memRead s q n = .ok l ↔ st.RangeOk s q n ∧ st.mem.readCells s q n = l := by
  simp only [State.memRead, bind_ok, checkRange_ok, pure_ok]
  exact ⟨fun ⟨_, h⟩ => h, fun h => ⟨(), h⟩⟩

theorem memWrite_ok {st t : State} {s q : Nat} {l : List Nat} :
    st.memWrite s q l = .ok t ↔ st.RangeOk s q l.length ∧ t = { st with mem := st.mem.writeCells s q l } := by
  simp only [State.memWrite, bind_ok, checkRange_ok, pure_ok]
  exact ⟨fun ⟨_, h, h'⟩ => ⟨h, h'.symm⟩, fun ⟨h, h'⟩ => ⟨(), h, h'.symm⟩⟩

theorem blockRead_ok {st : State} {s q n : Nat} {l : List Nat} :
    st.blockRead s q n = .ok l ↔ st.BlockOk s q n ∧ st.mem.readCells s q n = l := by
  simp only [State.blockRead, bind_ok, checkBlock_ok, pure_ok]
  exact ⟨fun ⟨_, h⟩ => h, fun h => ⟨(), h⟩⟩

theorem blockWrite_ok {st t : State} {s q : Nat} {l : List Nat} :
    st.blockWrite s q l = .ok t ↔ st.BlockOk s q l.length ∧ t = { st with mem := st.mem.writeCells s q l } := by
  simp only [State.blockWrite, bind_ok, checkBlock_ok, pure_ok]
  exact ⟨fun ⟨_, h, h'⟩ => ⟨h, h'.symm⟩, fun ⟨h, h'⟩ => ⟨(), h, h'.symm⟩⟩

theorem cellRead_ok {st : State} {s q : Nat} {v : Nat} :
    st.cellRead s q = .ok v ↔ st.RangeOk s q 1 ∧ st.mem.read ⟨s, q⟩ = v := by
  simp only [State.cellRead, bind_ok, checkRange_ok, pure_ok]
  exact ⟨fun ⟨_, h⟩ => h, fun h => ⟨(), h⟩⟩

theorem bytesOf_ok {l r : List Nat} : bytesOf l = .ok r ↔ (∀ v ∈ l, v < 256) ∧ r = l := by
  simp only [bytesOf, bind_ok, require_ok, pure_ok]
  exact ⟨fun ⟨_, h, h'⟩ => ⟨h, h'.symm⟩, fun ⟨h, h'⟩ => ⟨(), h, h'.symm⟩⟩

/-! ### Registers -/

/-- The register at pointer `q` can be read and written (R26). -/
abbrev State.RegOk (st : State) (q : Nat) : Prop := st.BlockOk 1 q 4

theorem readCells_eq_leBytes {m : Memory} {s q n v : Nat} (hv : v < 256 ^ n) :
    m.readCells s q n = leBytes v n ↔ (∀ x ∈ m.readCells s q n, x < 256) ∧ leNat (m.readCells s q n) = v := by
  rw [leBytes_eq_iff hv]; simp

/-- Reading a register: its four cells are the bytes of the answer. -/
theorem reg32_ok {st : State} {q : Nat} {x : Word} :
    st.reg32 q = .ok x ↔ st.RegOk q ∧ st.mem.readCells 1 q 4 = leBytes x.toNat 4 := by
  have hx : x.toNat < 256 ^ 4 := by have := x.isLt; norm_num; omega
  simp only [State.reg32, bind_ok, blockRead_ok, bytesOf_ok, pure_ok, readCells_eq_leBytes hx]
  constructor
  · rintro ⟨_, ⟨hb, rfl⟩, _, ⟨h8, rfl⟩, rfl⟩
    refine ⟨hb, h8, ?_⟩
    have := leNat_lt h8
    simp at this
    simp [Nat.mod_eq_of_lt this]
  · rintro ⟨hb, h8, he⟩
    exact ⟨_, ⟨hb, rfl⟩, _, ⟨h8, rfl⟩, by rw [he]; simp⟩

/-- Writing a register. -/
theorem setReg32_ok {st t : State} {q : Nat} {v : Word} :
    st.setReg32 q v = .ok t ↔ st.RegOk q ∧ t = { st with mem := st.mem.writeCells 1 q (leBytes v.toNat 4) } := by
  simp only [State.setReg32, blockWrite_ok, leBytes_length]

/-! ### The program counter -/

theorem setPc_ok {st t : State} {c : Nat} : st.setPc c = .ok t ↔ c < 2 ^ 30 ∧ t = { st with pc := c } := by
  simp only [State.setPc, bind_ok, require_ok, pure_ok]
  exact ⟨fun ⟨_, h, h'⟩ => ⟨h, h'.symm⟩, fun ⟨h, h'⟩ => ⟨(), h, h'.symm⟩⟩

theorem advance_ok {st t : State} :
    st.advance = .ok t ↔ fadd st.cfg.p st.pc 4 < 2 ^ 30 ∧ t = { st with pc := fadd st.cfg.p st.pc 4 } := by
  simp only [State.advance, State.nextPc, setPc_ok]

theorem jumpBy_ok {st t : State} {c : Nat} :
    st.jumpBy c = .ok t ↔ (0 ≤ (st.pc : Int) + centred st.cfg.p c ∧ (st.pc : Int) + centred st.cfg.p c < 2 ^ 30) ∧
      t = { st with pc := fadd st.cfg.p st.pc c } := by
  simp only [State.jumpBy, bind_ok, require_ok, pure_ok]
  exact ⟨fun ⟨_, h, h'⟩ => ⟨h, h'.symm⟩, fun ⟨h, h'⟩ => ⟨(), h, h'.symm⟩⟩

theorem nativeJumpBy_ok {st t : State} {c : Nat} :
    st.nativeJumpBy c = .ok t ↔ fadd st.cfg.p st.pc c < 2 ^ 30 ∧ t = { st with pc := fadd st.cfg.p st.pc c } := by
  simp only [State.nativeJumpBy, setPc_ok]

/-- For an offset in the range of D30 the check of the field sum is that of the integer sum (R44). -/
theorem nativeTarget_iff {p pc c : Nat} (hp : 2 ^ 30 + 2 * 2 ^ 24 < p) (hpc : pc < 2 ^ 30)
    (hc : -(2 ^ 24) ≤ centred p c ∧ centred p c < 2 ^ 24) :
    fadd p pc c < 2 ^ 30 ↔ 0 ≤ (pc : Int) + centred p c ∧ (pc : Int) + centred p c < 2 ^ 30 := by
  unfold centred at hc ⊢
  unfold fadd
  split_ifs at hc ⊢ with h
  · rw [Nat.mod_eq_of_lt (by omega)]; omega
  · by_cases hn : p ≤ pc + c
    · rw [Nat.mod_eq_sub_mod hn, Nat.mod_eq_of_lt (by omega)]; omega
    · rw [Nat.mod_eq_of_lt (by omega)]; omega

/-- For an offset in the range of D30, `NTarget` is `Target`: "the same check" (R44, R281, R423). -/
theorem nativeJumpBy_eq_jumpBy {st : State} {c : Nat} (hp : 2 ^ 30 + 2 * 2 ^ 24 < st.cfg.p) (hpc : st.pc < 2 ^ 30)
    (hc : -(2 ^ 24) ≤ centred st.cfg.p c ∧ centred st.cfg.p c < 2 ^ 24) : st.nativeJumpBy c = st.jumpBy c := by
  have h := nativeTarget_iff hp hpc hc
  unfold State.nativeJumpBy State.setPc State.jumpBy require
  by_cases hn : fadd st.cfg.p st.pc c < 2 ^ 30
  · simp only [if_pos hn, if_pos (h.mp hn)]
  · simp only [if_neg hn, if_neg (h.not.mp hn)]

/-! ### Pointers -/

theorem pointer_ok {st : State} {ptr : Int} {n q : Nat} :
    st.pointer ptr n = .ok q ↔ ptr = q ∧ q + n ≤ 2 ^ st.cfg.pointerMaxBits := by
  simp only [State.pointer, bind_ok, require_ok, pure_ok]
  constructor
  · rintro ⟨_, ⟨h0, h1⟩, rfl⟩
    refine ⟨(Int.toNat_of_nonneg h0).symm, ?_⟩
    have : ((ptr.toNat + n : Nat) : Int) ≤ ((2 ^ st.cfg.pointerMaxBits : Nat) : Int) := by
      push_cast; rw [Int.toNat_of_nonneg h0]; exact h1
    exact_mod_cast this
  · rintro ⟨rfl, h⟩
    exact ⟨(), ⟨by simp, by exact_mod_cast h⟩, by simp⟩

theorem alignedPointer_ok {st : State} {ptr : Int} {n b q : Nat} :
    st.alignedPointer ptr n b = .ok q ↔ ptr = q ∧ q + n ≤ 2 ^ st.cfg.pointerMaxBits ∧ q % b = 0 := by
  simp only [State.alignedPointer, bind_ok, require_ok, pure_ok, pointer_ok]
  constructor
  · rintro ⟨_, ⟨h, h'⟩, _, h2, rfl⟩; exact ⟨h, h', h2⟩
  · rintro ⟨h, h', h2⟩; exact ⟨q, ⟨h, h'⟩, (), h2, rfl⟩

theorem effectiveAddress_ok {st : State} {b c : Nat} {align q : Nat} :
    st.effectiveAddress b c align = .ok q ↔
      ∃ base, st.reg32 b = .ok base ∧ displaced base c = q ∧ q + 1 ≤ 2 ^ st.cfg.pointerMaxBits ∧ q % align = 0 := by
  simp only [State.effectiveAddress, bind_ok, alignedPointer_ok]

theorem regPointer_ok {st : State} {r : Nat} {n b q : Nat} :
    st.regPointer r n b = .ok q ↔
      ∃ base, st.reg32 r = .ok base ∧ base.toInt = q ∧ q + n ≤ 2 ^ st.cfg.pointerMaxBits ∧ q % b = 0 := by
  simp only [State.regPointer, bind_ok, alignedPointer_ok]

/-- Loading a byte string through a register. -/
theorem loadBytes_ok {st : State} {r : Nat} {n b : Nat} {l : List Nat} :
    st.loadBytes r n b = .ok l ↔
      ∃ q, st.regPointer r n b = .ok q ∧ st.RangeOk 2 q n ∧ (∀ x ∈ l, x < 256) ∧ st.mem.readCells 2 q n = l := by
  simp only [State.loadBytes, bind_ok, memRead_ok, bytesOf_ok]
  constructor
  · rintro ⟨q, hq, _, ⟨hr, rfl⟩, h8, rfl⟩; exact ⟨q, hq, hr, h8, rfl⟩
  · rintro ⟨q, hq, hr, h8, rfl⟩; exact ⟨q, hq, _, ⟨hr, rfl⟩, h8, rfl⟩

theorem load256_ok {st : State} {r : Nat} {x : Wide} :
    st.load256 r = .ok x ↔
      ∃ q, st.regPointer r 32 32 = .ok q ∧ st.RangeOk 2 q 32 ∧ st.mem.readCells 2 q 32 = leBytes x.toNat 32 := by
  have hx : x.toNat < 256 ^ 32 := by have := x.isLt; norm_num at this ⊢; omega
  simp only [State.load256, bind_ok, loadBytes_ok, pure_ok, readCells_eq_leBytes hx]
  constructor
  · rintro ⟨_, ⟨q, hq, hr, h8, rfl⟩, rfl⟩
    refine ⟨q, hq, hr, h8, ?_⟩
    have := leNat_lt h8
    simp only [Memory.readCells_length] at this
    rw [BitVec.toNat_ofNat, Nat.mod_eq_of_lt (by norm_num at this ⊢; omega)]
  · rintro ⟨q, hq, hr, h8, he⟩
    exact ⟨_, ⟨q, hq, hr, h8, rfl⟩, by rw [he]; simp⟩

theorem store256_ok {st t : State} {r : Nat} {v : Wide} :
    st.store256 r v = .ok t ↔
      ∃ q, st.regPointer r 32 32 = .ok q ∧ st.RangeOk 2 q 32 ∧
        t = { st with mem := st.mem.writeCells 2 q (leBytes v.toNat 32) } := by
  simp only [State.store256, bind_ok, memWrite_ok, leBytes_length]

theorem nativePointer_ok {st : State} {d c b : Nat} {q : Nat} :
    st.nativePointer d c b = .ok q ↔ st.RangeOk d c 1 ∧ q = fadd st.cfg.p (st.mem.read ⟨d, c⟩) b := by
  simp only [State.nativePointer, bind_ok, cellRead_ok, pure_ok]
  constructor
  · rintro ⟨_, ⟨h, rfl⟩, rfl⟩; exact ⟨h, rfl⟩
  · rintro ⟨h, rfl⟩; exact ⟨_, ⟨h, rfl⟩, rfl⟩

theorem indexedPointer_ok {st : State} {d c f g b : Nat} {q : Nat} :
    st.indexedPointer d c f g b = .ok q ↔ st.RangeOk d c 1 ∧ st.RangeOk d f 1 ∧
      q = fadd st.cfg.p (fadd st.cfg.p (st.mem.read ⟨d, c⟩) (fmul st.cfg.p (st.mem.read ⟨d, f⟩) g)) b := by
  simp only [State.indexedPointer, bind_ok, cellRead_ok, pure_ok]
  constructor
  · rintro ⟨_, ⟨h, rfl⟩, _, ⟨h', rfl⟩, rfl⟩; exact ⟨h, h', rfl⟩
  · rintro ⟨h, h', rfl⟩; exact ⟨_, ⟨h, rfl⟩, _, ⟨h', rfl⟩, rfl⟩

/-- An immediate or a cell. -/
theorem val_ok {st : State} {e c v : Nat} :
    st.val e c = .ok v ↔ (e = 0 ∧ v = c) ∨ (e ≠ 0 ∧ st.RangeOk e c 1 ∧ st.mem.read ⟨e, c⟩ = v) := by
  unfold State.val
  by_cases he : e = 0
  · simp [he, eq_comm]
  · simp only [he, if_false, cellRead_ok, false_and, false_or, ne_eq, not_false_eq_true, true_and]

theorem op2_ok {st : State} {c e : Nat} {y : Word} :
    st.op2 c e = .ok y ↔ (e = 0 ∧ y = sext32 16 c) ∨ (e ≠ 0 ∧ st.reg32 c = .ok y) := by
  unfold State.op2
  by_cases he : e = 0
  · simp [he, eq_comm]
  · simp [he]

/-! ### Enabled instructions, queues -/

theorem requireOp_ok {st : State} {op : Op} {u : Unit} : st.requireOp op = .ok u ↔ opEnabled st.cfg op = true := by
  simp only [State.requireOp, require_ok]

theorem hintPeek_ok {st : State} {n : Nat} {l : List Nat} :
    st.hintPeek n = .ok l ↔ n ≤ st.hintStream.length ∧ l = st.hintStream.take n := by
  simp only [State.hintPeek, bind_ok, require_ok, pure_ok]
  exact ⟨fun ⟨_, h, h'⟩ => ⟨h, h'.symm⟩, fun ⟨h, h'⟩ => ⟨(), h, h'.symm⟩⟩

end Sys2Proof.Machine
end

