-- ==== Sys2Proof/Laws/Skeletons.lean ====
section
/-!
SUPPORT. One lemma for each skeleton of a family: exactly when an instruction has a successor, and which.
-/

namespace Sys2Proof.Machine

/-- The state after the default step, with a row of cells written. -/
abbrev State.wrote (s : State) (sp q : Nat) (l : List Nat) : State :=
  { s with mem := s.mem.writeCells sp q l, pc := fadd s.cfg.p s.pc 4 }

/-- The default step stays below `2^30`. -/
abbrev State.StepOk (s : State) : Prop := fadd s.cfg.p s.pc 4 < 2 ^ 30

/-! ### System -/

theorem execTerminate_next {o : Operands} {s t : State} :
    execTerminate o s = .next t ↔ opEnabled s.cfg .terminate = true ∧
      (o.a = 0 ∧ o.b = 0 ∧ o.d = 0 ∧ o.e = 0 ∧ o.f = 0 ∧ o.g = 0) ∧ t = { s with status := .terminated o.c } := by
  simp only [execTerminate, outcome_next, bind_ok, requireOp_ok, require_ok, pure_ok]
  constructor
  · rintro ⟨_, h, _, h', rfl⟩; exact ⟨h, h', rfl⟩
  · rintro ⟨h, h', rfl⟩; exact ⟨(), h, (), h', rfl⟩

theorem runPhantom_next {effect : State → Nat → Nat → Nat → Except Fault State} {q : PhantomOperands} {s t : State} :
    runPhantom effect q s = .next t ↔ opEnabled s.cfg .phantom = true ∧ (q.d = 0 ∧ q.e = 0 ∧ q.f = 0 ∧ q.g = 0) ∧
      ∃ u, effect s q.a q.b q.cUpper = .ok u ∧ u.StepOk ∧ t = { u with pc := fadd u.cfg.p u.pc 4 } := by
  simp only [runPhantom, outcome_next, bind_ok, requireOp_ok, require_ok, advance_ok]
  constructor
  · rintro ⟨_, h, _, h', u, hu, h4, rfl⟩; exact ⟨h, h', u, hu, h4, rfl⟩
  · rintro ⟨h, h', u, hu, h4, rfl⟩; exact ⟨(), h, (), h', u, hu, h4, rfl⟩

theorem noPhantomOperands_ok {a b c : Nat} {u : Unit} : noPhantomOperands a b c = .ok u ↔ a = 0 ∧ b = 0 ∧ c = 0 := by
  simp only [noPhantomOperands, require_ok]

theorem phantomNopEffect_ok {s t : State} {a b c : Nat} :
    phantomNopEffect s a b c = .ok t ↔ (a = 0 ∧ b = 0 ∧ c = 0) ∧ t = s := by
  simp only [phantomNopEffect, bind_ok, noPhantomOperands_ok, pure_ok]
  exact ⟨fun ⟨_, h, h'⟩ => ⟨h, h'.symm⟩, fun ⟨h, h'⟩ => ⟨(), h, h'.symm⟩⟩

theorem phantomDebugPanicEffect_ok {s t : State} {a b c : Nat} : phantomDebugPanicEffect s a b c ≠ .ok t := by
  simp [phantomDebugPanicEffect, bind_ok]

theorem phantomTodoEffect_ok {s t : State} {a b c : Nat} : phantomTodoEffect s a b c ≠ .ok t := by
  simp [phantomTodoEffect]

theorem phantomUnknownEffect_ok {s t : State} {a b c : Nat} : phantomUnknownEffect s a b c ≠ .ok t := by
  simp [phantomUnknownEffect]

theorem phantomPrintFEffect_ok {s t : State} {a b c : Nat} :
    phantomPrintFEffect s a b c = .ok t ↔ b = 0 ∧ s.RangeOk c a 1 ∧ t = s.log (.printed (s.mem.read ⟨c, a⟩)) := by
  simp only [phantomPrintFEffect, bind_ok, require_ok, cellRead_ok, pure_ok]
  constructor
  · rintro ⟨_, h, _, ⟨h', rfl⟩, rfl⟩; exact ⟨h, h', rfl⟩
  · rintro ⟨h, h', rfl⟩; exact ⟨(), h, _, ⟨h', rfl⟩, rfl⟩

theorem phantomHintInputEffect_ok {s t : State} {a b c : Nat} :
    phantomHintInputEffect s a b c = .ok t ↔ (a = 0 ∧ b = 0 ∧ c = 0) ∧ ∃ hint rest, s.inputStream = hint :: rest ∧
      t = { s with inputStream := rest, hintStream := (hint.length % s.cfg.p) :: hint } := by
  simp only [phantomHintInputEffect, bind_ok, noPhantomOperands_ok]
  cases hs : s.inputStream with
  | nil => simp
  | cons hint rest =>
    simp only [pure_ok, List.cons.injEq]
    constructor
    · rintro ⟨_, h, rfl⟩; exact ⟨h, hint, rest, ⟨rfl, rfl⟩, rfl⟩
    · rintro ⟨h, _, _, ⟨rfl, rfl⟩, rfl⟩; exact ⟨(), h, rfl⟩

theorem phantomHintBitsEffect_ok {s t : State} {a b c : Nat} :
    phantomHintBitsEffect s a b c = .ok t ↔
      b ≤ 32 ∧ s.RangeOk c a 1 ∧ t = { s with hintStream := lowBits (s.mem.read ⟨c, a⟩) b } := by
  simp only [phantomHintBitsEffect, bind_ok, require_ok, cellRead_ok, pure_ok]
  constructor
  · rintro ⟨_, h, _, ⟨h', rfl⟩, rfl⟩; exact ⟨h, h', rfl⟩
  · rintro ⟨h, h', rfl⟩; exact ⟨(), h, _, ⟨h', rfl⟩, rfl⟩

theorem phantomCtStartEffect_ok {s t : State} {a b c : Nat} :
    phantomCtStartEffect s a b c = .ok t ↔ (a = 0 ∧ b = 0 ∧ c = 0) ∧ t = s.log .spanOpened := by
  simp only [phantomCtStartEffect, bind_ok, noPhantomOperands_ok, pure_ok]
  exact ⟨fun ⟨_, h, h'⟩ => ⟨h, h'.symm⟩, fun ⟨h, h'⟩ => ⟨(), h, h'.symm⟩⟩

theorem phantomCtEndEffect_ok {s t : State} {a b c : Nat} :
    phantomCtEndEffect s a b c = .ok t ↔ (a = 0 ∧ b = 0 ∧ c = 0) ∧ t = s.log .spanClosed := by
  simp only [phantomCtEndEffect, bind_ok, noPhantomOperands_ok, pure_ok]
  exact ⟨fun ⟨_, h, h'⟩ => ⟨h, h'.symm⟩, fun ⟨h, h'⟩ => ⟨(), h, h'.symm⟩⟩

/-! ### RV32 -/

theorem execAlu_next {op : Op} {f : Word → Word → Word} {o : Operands} {s t : State} :
    execAlu op f o s = .next t ↔ opEnabled s.cfg op = true ∧ (o.d = 1 ∧ (o.e = 0 ∨ o.e = 1) ∧ o.f = 0 ∧ o.g = 0) ∧
      (o.e = 0 → AluImmediate o.c) ∧ ∃ x y, s.reg32 o.b = .ok x ∧ s.op2 o.c o.e = .ok y ∧ s.RegOk o.a ∧ s.StepOk ∧
        t = s.wrote 1 o.a (leBytes (f x y).toNat 4) := by
  simp only [execAlu, outcome_next, bind_ok, requireOp_ok, require_ok, setReg32_ok, advance_ok]
  constructor
  · rintro ⟨_, h1, _, h2, _, h3, x, hx, y, hy, _, ⟨hr, rfl⟩, h4, rfl⟩; exact ⟨h1, h2, h3, x, y, hx, hy, hr, h4, rfl⟩
  · rintro ⟨h1, h2, h3, x, y, hx, hy, hr, h4, rfl⟩
    exact ⟨(), h1, (), h2, (), h3, x, hx, y, hy, _, ⟨hr, rfl⟩, h4, rfl⟩

/-- The conditions of `loadStoreChecks`. -/
abbrev State.LoadStoreOk (s : State) (op : Op) (o : Operands) : Prop :=
  opEnabled s.cfg op = true ∧ (o.d = 1 ∧ o.f = 0 ∧ o.g = 0) ∧ ValidSpace s.cfg o.e ∧ o.c < 2 ^ 16 ∧ s.RegOk o.a ∧ s.RegOk o.b

theorem loadStoreChecks_ok {op : Op} {o : Operands} {s : State} {u : Unit} :
    s.loadStoreChecks op o = .ok u ↔ s.LoadStoreOk op o := by
  simp only [State.loadStoreChecks, bind_ok, requireOp_ok, require_ok, checkBlock_ok]
  constructor
  · rintro ⟨_, h1, _, h2, _, h3, _, h4, _, h5, h6⟩; exact ⟨h1, h2, h3, h4, h5, h6⟩
  · rintro ⟨h1, h2, h3, h4, h5, h6⟩; exact ⟨(), h1, (), h2, (), h3, (), h4, (), h5, h6⟩

theorem execLoad_next {op : Op} {n : Nat} {conv : List Nat → Word} {o : Operands} {s t : State} :
    execLoad op n conv o s = .next t ↔ s.LoadStoreOk op o ∧ ∃ q, s.effectiveAddress o.b o.c n = .ok q ∧
      s.RangeOk o.e q n ∧ (∀ x ∈ s.mem.readCells o.e q n, x < 256) ∧ s.StepOk ∧
        t = s.wrote 1 o.a (leBytes (conv (s.mem.readCells o.e q n)).toNat 4) := by
  simp only [execLoad, outcome_next, bind_ok, loadStoreChecks_ok, memRead_ok, bytesOf_ok, setReg32_ok, advance_ok]
  constructor
  · rintro ⟨_, h1, q, hq, _, ⟨hr, rfl⟩, _, ⟨h8, rfl⟩, _, ⟨hw, rfl⟩, h4, rfl⟩; exact ⟨h1, q, hq, hr, h8, h4, rfl⟩
  · rintro ⟨h1, q, hq, hr, h8, h4, rfl⟩
    exact ⟨(), h1, q, hq, _, ⟨hr, rfl⟩, _, ⟨h8, rfl⟩, _, ⟨h1.2.2.2.2.1, rfl⟩, h4, rfl⟩

theorem execStore_next {op : Op} {n : Nat} {o : Operands} {s t : State} :
    execStore op n o s = .next t ↔ s.LoadStoreOk op o ∧ (∀ x ∈ s.mem.readCells 1 o.a 4, x < 256) ∧
      ∃ q, s.effectiveAddress o.b o.c n = .ok q ∧ s.RangeOk o.e q ((s.mem.readCells 1 o.a 4).take n).length ∧ s.StepOk ∧
        t = s.wrote o.e q ((s.mem.readCells 1 o.a 4).take n) := by
  simp only [execStore, outcome_next, bind_ok, loadStoreChecks_ok, blockRead_ok, bytesOf_ok, memWrite_ok, advance_ok]
  constructor
  · rintro ⟨_, h1, _, ⟨hr, rfl⟩, _, ⟨h8, rfl⟩, q, hq, _, ⟨hw, rfl⟩, h4, rfl⟩; exact ⟨h1, h8, q, hq, hw, h4, rfl⟩
  · rintro ⟨h1, h8, q, hq, hw, h4, rfl⟩
    exact ⟨(), h1, _, ⟨h1.2.2.2.2.1, rfl⟩, _, ⟨h8, rfl⟩, q, hq, _, ⟨hw, rfl⟩, h4, rfl⟩

/-- A conditional transfer to `pc + c`, or the default step. -/
theorem branch_ok {b : Bool} {c : Nat} {s t : State} :
    (if b = true then s.jumpBy c else s.advance) = .ok t ↔
      (b = true ∧ (0 ≤ (s.pc : Int) + centred s.cfg.p c ∧ (s.pc : Int) + centred s.cfg.p c < 2 ^ 30) ∧
        t = { s with pc := fadd s.cfg.p s.pc c }) ∨
      (b = false ∧ s.StepOk ∧ t = { s with pc := fadd s.cfg.p s.pc 4 }) := by
  cases b <;> simp [jumpBy_ok, advance_ok]

theorem execBranch_next {op : Op} {cond : Word → Word → Bool} {o : Operands} {s t : State} :
    execBranch op cond o s = .next t ↔ opEnabled s.cfg op = true ∧ (o.d = 1 ∧ o.e = 1 ∧ o.f = 0 ∧ o.g = 0) ∧
      BranchOffset s.cfg.p o.c ∧ ∃ x y, s.reg32 o.a = .ok x ∧ s.reg32 o.b = .ok y ∧
        (if cond x y = true then s.jumpBy o.c else s.advance) = .ok t := by
  simp only [execBranch, outcome_next, bind_ok, requireOp_ok, require_ok]
  constructor
  · rintro ⟨_, h1, _, h2, _, h3, x, hx, y, hy, h⟩; exact ⟨h1, h2, h3, x, y, hx, hy, h⟩
  · rintro ⟨h1, h2, h3, x, y, hx, hy, h⟩; exact ⟨(), h1, (), h2, (), h3, x, hx, y, hy, h⟩

theorem link_ok {s t : State} {a f : Nat} :
    s.link a f = .ok t ↔ (f = 0 ∧ t = s) ∨
      (f ≠ 0 ∧ s.RegOk a ∧ t = { s with mem := s.mem.writeCells 1 a (leBytes (fadd s.cfg.p s.pc 4) 4) }) := by
  unfold State.link
  by_cases hf : f = 0
  · simp [hf, eq_comm]
  · simp [hf, blockWrite_ok, State.nextPc]

theorem execJalRv32_next {o : Operands} {s t : State} :
    execJalRv32 o s = .next t ↔ opEnabled s.cfg .jalRv32 = true ∧
      (o.b = 0 ∧ o.d = 1 ∧ o.e = 0 ∧ (o.f = 0 ∨ o.f = 1) ∧ o.g = 0) ∧ BranchOffset s.cfg.p o.c ∧
        ∃ u, s.link o.a o.f = .ok u ∧ u.jumpBy o.c = .ok t := by
  simp only [execJalRv32, outcome_next, bind_ok, requireOp_ok, require_ok]
  constructor
  · rintro ⟨_, h1, _, h2, _, h3, h⟩; exact ⟨h1, h2, h3, h⟩
  · rintro ⟨h1, h2, h3, h⟩; exact ⟨(), h1, (), h2, (), h3, h⟩

theorem execJalrRv32_next {o : Operands} {s t : State} :
    execJalrRv32 o s = .next t ↔ opEnabled s.cfg .jalrRv32 = true ∧
      (o.d = 1 ∧ o.e = 0 ∧ (o.f = 0 ∨ o.f = 1) ∧ o.g = 0) ∧ o.c < 2 ^ 16 ∧
        ∃ base u, s.reg32 o.b = .ok base ∧ s.link o.a o.f = .ok u ∧
          (0 ≤ displaced base o.c ∧ displaced base o.c < 2 ^ 30) ∧ u.setPc (fe s.cfg.p (displaced base o.c)) = .ok t := by
  simp only [execJalrRv32, outcome_next, bind_ok, requireOp_ok, require_ok]
  constructor
  · rintro ⟨_, h1, _, h2, _, h3, x, hx, u, hu, _, h4, h⟩; exact ⟨h1, h2, h3, x, u, hx, hu, h4, h⟩
  · rintro ⟨h1, h2, h3, x, u, hx, hu, h4, h⟩; exact ⟨(), h1, (), h2, (), h3, x, hx, u, hu, (), h4, h⟩

theorem execLuiRv32_next {o : Operands} {s t : State} :
    execLuiRv32 o s = .next t ↔ opEnabled s.cfg .luiRv32 = true ∧
      (o.b = 0 ∧ o.d = 1 ∧ o.e = 0 ∧ o.f = 1 ∧ o.g = 0) ∧ o.c < 2 ^ 20 ∧ s.RegOk o.a ∧ s.StepOk ∧
        t = s.wrote 1 o.a (leBytes (BitVec.ofNat 32 (o.c * 2 ^ 12)).toNat 4) := by
  simp only [execLuiRv32, outcome_next, bind_ok, requireOp_ok, require_ok, setReg32_ok, advance_ok]
  constructor
  · rintro ⟨_, h1, _, h2, _, h3, _, ⟨hr, rfl⟩, h4, rfl⟩; exact ⟨h1, h2, h3, hr, h4, rfl⟩
  · rintro ⟨h1, h2, h3, hr, h4, rfl⟩; exact ⟨(), h1, (), h2, (), h3, _, ⟨hr, rfl⟩, h4, rfl⟩

theorem execAuipcRv32_next {o : Operands} {s t : State} :
    execAuipcRv32 o s = .next t ↔ opEnabled s.cfg .auipcRv32 = true ∧
      (o.b = 0 ∧ o.d = 1 ∧ o.e = 0 ∧ o.f = 0 ∧ o.g = 0) ∧ o.c < 2 ^ 20 ∧ s.RegOk o.a ∧ s.StepOk ∧
        t = s.wrote 1 o.a (leBytes (BitVec.ofNat 32 (s.pc + o.c * 2 ^ 12)).toNat 4) := by
  simp only [execAuipcRv32, outcome_next, bind_ok, requireOp_ok, require_ok, setReg32_ok, advance_ok]
  constructor
  · rintro ⟨_, h1, _, h2, _, h3, _, ⟨hr, rfl⟩, h4, rfl⟩; exact ⟨h1, h2, h3, hr, h4, rfl⟩
  · rintro ⟨h1, h2, h3, hr, h4, rfl⟩; exact ⟨(), h1, (), h2, (), h3, _, ⟨hr, rfl⟩, h4, rfl⟩

theorem execMulDiv_next {op : Op} {f : Word → Word → Word} {o : Operands} {s t : State} :
    execMulDiv op f o s = .next t ↔ opEnabled s.cfg op = true ∧ (o.d = 1 ∧ o.e = 0 ∧ o.f = 0 ∧ o.g = 0) ∧
      ∃ x y, s.reg32 o.b = .ok x ∧ s.reg32 o.c = .ok y ∧ s.RegOk o.a ∧ s.StepOk ∧
        t = s.wrote 1 o.a (leBytes (f x y).toNat 4) := by
  simp only [execMulDiv, outcome_next, bind_ok, requireOp_ok, require_ok, setReg32_ok, advance_ok]
  constructor
  · rintro ⟨_, h1, _, h2, x, hx, y, hy, _, ⟨hr, rfl⟩, h4, rfl⟩; exact ⟨h1, h2, x, y, hx, hy, hr, h4, rfl⟩
  · rintro ⟨h1, h2, x, y, hx, hy, hr, h4, rfl⟩; exact ⟨(), h1, (), h2, x, hx, y, hy, _, ⟨hr, rfl⟩, h4, rfl⟩

theorem execHintstorewRv32_next {o : Operands} {s t : State} :
    execHintstorewRv32 o s = .next t ↔ opEnabled s.cfg .hintstorewRv32 = true ∧
      (o.a = 0 ∧ o.d = 1 ∧ o.e = 2 ∧ o.f = 0 ∧ o.g = 0) ∧ o.c < 2 ^ 16 ∧
        ∃ q, s.effectiveAddress o.b o.c 4 = .ok q ∧ 4 ≤ s.hintStream.length ∧ (∀ x ∈ s.hintStream.take 4, x < 256) ∧
          s.BlockOk 2 q 4 ∧ s.StepOk ∧
            t = { s.wrote 2 q (s.hintStream.take 4) with hintStream := s.hintStream.drop 4 } := by
  simp only [execHintstorewRv32, outcome_next, bind_ok, requireOp_ok, require_ok, hintPeek_ok, bytesOf_ok, blockWrite_ok,
    advance_ok]
  constructor
  · rintro ⟨_, h1, _, h2, _, h3, q, hq, _, ⟨hl, rfl⟩, _, ⟨h8, rfl⟩, _, ⟨hw, rfl⟩, h4, rfl⟩
    rw [List.length_take, Nat.min_eq_left hl] at hw
    exact ⟨h1, h2, h3, q, hq, hl, h8, hw, h4, rfl⟩
  · rintro ⟨h1, h2, h3, q, hq, hl, h8, hw, h4, rfl⟩
    refine ⟨(), h1, (), h2, (), h3, q, hq, _, ⟨hl, rfl⟩, _, ⟨h8, rfl⟩, _, ⟨?_, rfl⟩, h4, rfl⟩
    rw [List.length_take, Nat.min_eq_left hl]; exact hw

theorem execRevealRv32_next {o : Operands} {s t : State} :
    execRevealRv32 o s = .next t ↔ opEnabled s.cfg .storewRv32 = true ∧
      (o.d = 1 ∧ o.e = 3 ∧ o.f = 0 ∧ o.g = 0) ∧ o.c < 2 ^ 16 ∧ s.RegOk o.a ∧ s.RegOk o.b ∧
        (∀ x ∈ s.mem.readCells 1 o.a 4, x < 256) ∧ ∃ q, s.effectiveAddress o.b o.c 4 = .ok q ∧ s.RangeOk 3 q 4 ∧ s.StepOk ∧
          t = s.wrote 3 q (s.mem.readCells 1 o.a 4) := by
  simp only [execRevealRv32, outcome_next, bind_ok, requireOp_ok, require_ok, checkBlock_ok, blockRead_ok, bytesOf_ok,
    memWrite_ok, advance_ok]
  constructor
  · rintro ⟨_, h1, _, h2, _, h3, _, h5, _, h6, _, ⟨hr, rfl⟩, _, ⟨h8, rfl⟩, q, hq, _, ⟨hw, rfl⟩, h4, rfl⟩
    rw [Memory.readCells_length] at hw
    exact ⟨h1, h2, h3, h5, h6, h8, q, hq, hw, h4, rfl⟩
  · rintro ⟨h1, h2, h3, h5, h6, h8, q, hq, hw, h4, rfl⟩
    refine ⟨(), h1, (), h2, (), h3, (), h5, (), h6, _, ⟨h5, rfl⟩, _, ⟨h8, rfl⟩, q, hq, _, ⟨?_, rfl⟩, h4, rfl⟩
    rw [Memory.readCells_length]; exact hw

@[simp] theorem keccakDigest_length (m : List Nat) : (keccakDigest m).length = 32 := by simp [keccakDigest]

theorem lt_of_mem_keccakDigest {m : List Nat} {x : Nat} (h : x ∈ keccakDigest m) : x < 256 := by
  simp only [keccakDigest, List.mem_map] at h
  obtain ⟨j, -, rfl⟩ := h
  exact (Config.keccak256 m j).isLt

theorem execKeccak256Rv32_next {o : Operands} {s t : State} :
    execKeccak256Rv32 o s = .next t ↔ opEnabled s.cfg .keccak256Rv32 = true ∧ (o.d = 1 ∧ o.f = 0 ∧ o.g = 0) ∧
      ValidSpace s.cfg o.e ∧ ∃ (xa xb xc : Word) (dst src len : Nat), s.reg32 o.a = .ok xa ∧ s.reg32 o.b = .ok xb ∧
        s.reg32 o.c = .ok xc ∧ xa.toInt = dst ∧ xb.toInt = src ∧ xc.toInt = len ∧
        src + len ≤ 2 ^ s.cfg.pointerMaxBits ∧ dst + 32 ≤ 2 ^ s.cfg.pointerMaxBits ∧ (src % 4 = 0 ∧ dst % 4 = 0) ∧
        (∀ x ∈ s.mem.readCells o.e src len, x < 256) ∧ s.StepOk ∧
          t = s.wrote o.e dst (keccakDigest (s.mem.readCells o.e src len)) := by
  simp only [execKeccak256Rv32, outcome_next, bind_ok, requireOp_ok, require_ok, pointer_ok, memRead_ok, bytesOf_ok,
    memWrite_ok, advance_ok, keccakDigest_length]
  constructor
  · rintro ⟨_, h1, _, h2, _, h3, xa, ha, xb, hb, xc, hc, _, h0, src, ⟨es, hs⟩, dst, ⟨ed, hd⟩, _, h4, _, ⟨hr, rfl⟩, _,
      ⟨h8, rfl⟩, _, ⟨hw, rfl⟩, h9, rfl⟩
    exact ⟨h1, h2, h3, xa, xb, xc, dst, src, xc.toInt.toNat, ha, hb, hc, ed, es, (Int.toNat_of_nonneg h0).symm, hs, hd, h4,
      h8, h9, rfl⟩
  · rintro ⟨h1, h2, h3, xa, xb, xc, dst, src, len, ha, hb, hc, ed, es, el, hs, hd, h4, h8, h9, rfl⟩
    have e : xc.toInt.toNat = len := by rw [el]; rfl
    refine ⟨(), h1, (), h2, (), h3, xa, ha, xb, hb, xc, hc, (), by rw [el]; exact Int.natCast_nonneg _, src, ⟨es, ?_⟩, dst,
      ⟨ed, hd⟩, (), h4, _, ⟨⟨h3, ?_⟩, rfl⟩, _, ⟨?_, rfl⟩, _, ⟨⟨h3, hd⟩, rfl⟩, h9, ?_⟩
    · rw [e]; exact hs
    · rw [e]; exact hs
    · rw [e]; exact h8
    · rw [e]

/-! ### 256-bit -/

theorem execInt256_next {op : Op} {f : Wide → Wide → Wide} {o : Operands} {s t : State} :
    execInt256 op f o s = .next t ↔ opEnabled s.cfg op = true ∧ (o.d = 1 ∧ o.e = 2 ∧ o.f = 0 ∧ o.g = 0) ∧
      ∃ x y q, s.load256 o.b = .ok x ∧ s.load256 o.c = .ok y ∧ s.regPointer o.a 32 32 = .ok q ∧ s.RangeOk 2 q 32 ∧
        s.StepOk ∧ t = s.wrote 2 q (leBytes (f x y).toNat 32) := by
  simp only [execInt256, outcome_next, bind_ok, requireOp_ok, require_ok, store256_ok, advance_ok]
  constructor
  · rintro ⟨_, h1, _, h2, x, hx, y, hy, _, ⟨q, hq, hr, rfl⟩, h4, rfl⟩; exact ⟨h1, h2, x, y, q, hx, hy, hq, hr, h4, rfl⟩
  · rintro ⟨h1, h2, x, y, q, hx, hy, hq, hr, h4, rfl⟩
    exact ⟨(), h1, (), h2, x, hx, y, hy, _, ⟨q, hq, hr, rfl⟩, h4, rfl⟩

theorem execBranch256_next {op : Op} {cond : Wide → Wide → Bool} {o : Operands} {s t : State} :
    execBranch256 op cond o s = .next t ↔ opEnabled s.cfg op = true ∧ (o.d = 1 ∧ o.e = 2 ∧ o.f = 0 ∧ o.g = 0) ∧
      BranchOffset s.cfg.p o.c ∧ ∃ x y, s.load256 o.a = .ok x ∧ s.load256 o.b = .ok y ∧
        (if cond x y = true then s.jumpBy o.c else s.advance) = .ok t := by
  simp only [execBranch256, outcome_next, bind_ok, requireOp_ok, require_ok]
  constructor
  · rintro ⟨_, h1, _, h2, _, h3, x, hx, y, hy, h⟩; exact ⟨h1, h2, h3, x, y, hx, hy, h⟩
  · rintro ⟨h1, h2, h3, x, y, hx, hy, h⟩; exact ⟨(), h1, (), h2, (), h3, x, hx, y, hy, h⟩

/-! ### Modular and curve -/

theorem modulus_ok {s : State} {i : Nat} {m : Modulus} : s.modulus i = .ok m ↔ s.cfg.moduli[i]? = some m := by
  unfold State.modulus
  cases s.cfg.moduli[i]? <;> simp

theorem curve_ok {s : State} {i : Nat} {c : Curve} : s.curve i = .ok c ↔ s.cfg.curves[i]? = some c := by
  unfold State.curve
  cases s.cfg.curves[i]? <;> simp

theorem execModular_next {op : Op} {f : Nat → Nat → Nat → Except Fault Int} {i : Nat} {o : Operands} {s t : State} :
    execModular op f i o s = .next t ↔ opEnabled s.cfg op = true ∧ (o.d = 1 ∧ o.e = 2 ∧ o.f = 0 ∧ o.g = 0) ∧
      ∃ m x y v q, s.cfg.moduli[i]? = some m ∧ s.loadBytes o.b m.numLimbs m.blockSize = .ok x ∧
        s.loadBytes o.c m.numLimbs m.blockSize = .ok y ∧ f m.n (leNat x) (leNat y) = .ok v ∧
        s.regPointer o.a m.numLimbs m.blockSize = .ok q ∧ s.RangeOk 2 q m.numLimbs ∧ s.StepOk ∧
          t = { s.wrote 2 q (leBytes (representative m.n m.numLimbs s.draws v) m.numLimbs) with draws := s.draws + 1 } := by
  simp only [execModular, outcome_next, bind_ok, requireOp_ok, require_ok, modulus_ok, alignedPointer_ok, memWrite_ok,
    advance_ok, leBytes_length, regPointer_ok]
  constructor
  · rintro ⟨_, h1, _, h2, m, hm, x, hx, y, hy, ra, ha, v, hv, q, hq, _, ⟨hr, rfl⟩, h4, rfl⟩
    exact ⟨h1, h2, m, x, y, v, q, hm, hx, hy, hv, ⟨ra, ha, hq⟩, hr, h4, rfl⟩
  · rintro ⟨h1, h2, m, x, y, v, q, hm, hx, hy, hv, ⟨ra, ha, hq⟩, hr, h4, rfl⟩
    exact ⟨(), h1, (), h2, m, hm, x, hx, y, hy, ra, ha, v, hv, q, hq, _, ⟨hr, rfl⟩, h4, rfl⟩

theorem execIseqmodRv32_next {i : Nat} {o : Operands} {s t : State} :
    execIseqmodRv32 i o s = .next t ↔ opEnabled s.cfg (.iseqmodRv32 i) = true ∧
      (o.d = 1 ∧ o.e = 2 ∧ o.f = 0 ∧ o.g = 0) ∧ ∃ m x y, s.cfg.moduli[i]? = some m ∧
        s.loadBytes o.b m.numLimbs m.blockSize = .ok x ∧ s.loadBytes o.c m.numLimbs m.blockSize = .ok y ∧
        (leNat x < m.n ∧ leNat y < m.n) ∧ s.RegOk o.a ∧ s.StepOk ∧
          t = s.wrote 1 o.a (leBytes (boolWord 32 (decide (leNat x = leNat y))).toNat 4) := by
  simp only [execIseqmodRv32, outcome_next, bind_ok, requireOp_ok, require_ok, modulus_ok, setReg32_ok, advance_ok]
  constructor
  · rintro ⟨_, h1, _, h2, m, hm, x, hx, y, hy, _, h3, _, ⟨hr, rfl⟩, h4, rfl⟩
    exact ⟨h1, h2, m, x, y, hm, hx, hy, h3, hr, h4, rfl⟩
  · rintro ⟨h1, h2, m, x, y, hm, hx, hy, h3, hr, h4, rfl⟩
    exact ⟨(), h1, (), h2, m, hm, x, hx, y, hy, (), h3, _, ⟨hr, rfl⟩, h4, rfl⟩

theorem loadPoint_ok {s : State} {c : Curve} {r : Nat} {x y : Nat} :
    s.loadPoint c r = .ok (x, y) ↔ ∃ l, s.loadBytes r (2 * c.coordSize) c.blockSize = .ok l ∧
      x = leNat (l.take c.coordSize) ∧ y = leNat (l.drop c.coordSize) := by
  simp only [State.loadPoint, bind_ok, pure_ok, Prod.mk.injEq]
  exact ⟨fun ⟨l, h, h1, h2⟩ => ⟨l, h, h1.symm, h2.symm⟩, fun ⟨l, h, h1, h2⟩ => ⟨l, h, h1.symm, h2.symm⟩⟩

@[simp] theorem pointCells_length (c : Curve) (k : Nat) (x y : Int) : (pointCells c k x y).length = 2 * c.coordSize := by
  simp [pointCells]; omega

/-- The state after a curve instruction wrote the point `(x, y)` at pointer `q`. -/
abbrev State.wrotePoint (s : State) (c : Curve) (q : Nat) (x y : Int) : State :=
  { s.wrote 2 q (pointCells c s.draws x y) with draws := s.draws + 2 }

theorem storePoint_ok {s t : State} {c : Curve} {ra : Word} {x y : Int} :
    s.storePoint c ra x y = .ok t ↔ ∃ q : Nat, (ra.toInt = q ∧ q + 2 * c.coordSize ≤ 2 ^ s.cfg.pointerMaxBits ∧
      q % c.blockSize = 0) ∧ s.RangeOk 2 q (2 * c.coordSize) ∧
        t = { s with mem := s.mem.writeCells 2 q (pointCells c s.draws x y), draws := s.draws + 2 } := by
  simp only [State.storePoint, bind_ok, alignedPointer_ok, memWrite_ok, pure_ok, pointCells_length]
  constructor
  · rintro ⟨q, hq, _, ⟨hr, rfl⟩, rfl⟩; exact ⟨q, hq, hr, rfl⟩
  · rintro ⟨q, hq, hr, rfl⟩; exact ⟨q, hq, _, ⟨hr, rfl⟩, rfl⟩

theorem execSwAddNe_next {i : Nat} {o : Operands} {s t : State} :
    execSwAddNe i o s = .next t ↔ opEnabled s.cfg (.swAddNe i) = true ∧
      (o.d = 1 ∧ o.e = 2 ∧ o.f = 0 ∧ o.g = 0) ∧ ∃ c x1 y1 x2 y2 q, s.cfg.curves[i]? = some c ∧
        s.loadPoint c o.b = .ok (x1, y1) ∧ s.loadPoint c o.c = .ok (x2, y2) ∧
        ((x1 : Int) - x2) % c.p ≠ 0 ∧ (OnCurve c x1 y1 ∧ OnCurve c x2 y2) ∧
        s.regPointer o.a (2 * c.coordSize) c.blockSize = .ok q ∧ s.RangeOk 2 q (2 * c.coordSize) ∧ s.StepOk ∧
          t = s.wrotePoint c q (chord c.p ((y2 : Int) - y1) ((x2 : Int) - x1) x1 y1 x2).1
            (chord c.p ((y2 : Int) - y1) ((x2 : Int) - x1) x1 y1 x2).2 := by
  simp only [execSwAddNe, outcome_next, bind_ok, requireOp_ok, require_ok, curve_ok, storePoint_ok, advance_ok, regPointer_ok]
  constructor
  · rintro ⟨_, h1, _, h2, c, hc, ⟨x1, y1⟩, hx, ⟨x2, y2⟩, hy, ra, ha, _, h3, _, h4, _, ⟨q, hq, hr, rfl⟩, h5, rfl⟩
    exact ⟨h1, h2, c, x1, y1, x2, y2, q, hc, hx, hy, h3, h4, ⟨ra, ha, hq⟩, hr, h5, rfl⟩
  · rintro ⟨h1, h2, c, x1, y1, x2, y2, q, hc, hx, hy, h3, h4, ⟨ra, ha, hq⟩, hr, h5, rfl⟩
    exact ⟨(), h1, (), h2, c, hc, (x1, y1), hx, (x2, y2), hy, ra, ha, (), h3, (), h4, _, ⟨q, hq, hr, rfl⟩, h5, rfl⟩

theorem execSwDouble_next {i : Nat} {o : Operands} {s t : State} :
    execSwDouble i o s = .next t ↔ opEnabled s.cfg (.swDouble i) = true ∧
      (o.c = 0 ∧ o.d = 1 ∧ o.e = 2 ∧ o.f = 0 ∧ o.g = 0) ∧ ∃ c x1 y1 q, s.cfg.curves[i]? = some c ∧
        s.loadPoint c o.b = .ok (x1, y1) ∧ OnCurve c x1 y1 ∧ (2 * (y1 : Int)) % c.p ≠ 0 ∧
        s.regPointer o.a (2 * c.coordSize) c.blockSize = .ok q ∧ s.RangeOk 2 q (2 * c.coordSize) ∧ s.StepOk ∧
          t = s.wrotePoint c q (chord c.p (3 * (x1 : Int) ^ 2) (2 * (y1 : Int)) x1 y1 x1).1
            (chord c.p (3 * (x1 : Int) ^ 2) (2 * (y1 : Int)) x1 y1 x1).2 := by
  simp only [execSwDouble, outcome_next, bind_ok, requireOp_ok, require_ok, curve_ok, storePoint_ok, advance_ok, regPointer_ok]
  constructor
  · rintro ⟨_, h1, _, h2, c, hc, ⟨x1, y1⟩, hx, ra, ha, _, h3, _, h4, _, ⟨q, hq, hr, rfl⟩, h5, rfl⟩
    exact ⟨h1, h2, c, x1, y1, q, hc, hx, h3, h4, ⟨ra, ha, hq⟩, hr, h5, rfl⟩
  · rintro ⟨h1, h2, c, x1, y1, q, hc, hx, h3, h4, ⟨ra, ha, hq⟩, hr, h5, rfl⟩
    exact ⟨(), h1, (), h2, c, hc, (x1, y1), hx, ra, ha, (), h3, (), h4, _, ⟨q, hq, hr, rfl⟩, h5, rfl⟩

/-! ### Native -/

theorem nativeSpaces_ok {s : State} {d e : Nat} {u : Unit} :
    s.nativeSpaces d e = .ok u ↔ ValidSpace s.cfg d ∧ ValidSpace s.cfg e := by
  simp only [State.nativeSpaces, require_ok]

theorem noFG_ok {o : Operands} {u : Unit} : noFG o = .ok u ↔ o.f = 0 ∧ o.g = 0 := by simp only [noFG, require_ok]

/-- The conditions most native instructions check first. -/
abbrev State.NativeOk (s : State) (op : Op) (o : Operands) : Prop :=
  opEnabled s.cfg op = true ∧ (ValidSpace s.cfg o.d ∧ ValidSpace s.cfg o.e) ∧ (o.f = 0 ∧ o.g = 0)

theorem execLoadNative_next {w : Nat} {o : Operands} {s t : State} :
    execLoadNative w o s = .next t ↔ s.NativeOk (.load w) o ∧ s.RangeOk o.d o.c 1 ∧
      s.BlockOk o.e (fadd s.cfg.p (s.mem.read ⟨o.d, o.c⟩) o.b) w ∧ s.BlockOk o.d o.a w ∧ s.StepOk ∧
        t = s.wrote o.d o.a (s.mem.readCells o.e (fadd s.cfg.p (s.mem.read ⟨o.d, o.c⟩) o.b) w) := by
  simp only [execLoadNative, outcome_next, bind_ok, requireOp_ok, nativeSpaces_ok, noFG_ok, nativePointer_ok, blockRead_ok,
    blockWrite_ok, advance_ok]
  constructor
  · rintro ⟨_, h1, _, h2, _, h3, _, ⟨hp, rfl⟩, _, ⟨hr, rfl⟩, _, ⟨hw, rfl⟩, h4, rfl⟩
    rw [Memory.readCells_length] at hw
    exact ⟨⟨h1, h2, h3⟩, hp, hr, hw, h4, rfl⟩
  · rintro ⟨⟨h1, h2, h3⟩, hp, hr, hw, h4, rfl⟩
    refine ⟨(), h1, (), h2, (), h3, _, ⟨hp, rfl⟩, _, ⟨hr, rfl⟩, _, ⟨?_, rfl⟩, h4, rfl⟩
    rw [Memory.readCells_length]; exact hw

theorem execStoreNative_next {w : Nat} {o : Operands} {s t : State} :
    execStoreNative w o s = .next t ↔ s.NativeOk (.store w) o ∧ s.RangeOk o.d o.c 1 ∧ s.BlockOk o.d o.a w ∧
      s.BlockOk o.e (fadd s.cfg.p (s.mem.read ⟨o.d, o.c⟩) o.b) w ∧ s.StepOk ∧
        t = s.wrote o.e (fadd s.cfg.p (s.mem.read ⟨o.d, o.c⟩) o.b) (s.mem.readCells o.d o.a w) := by
  simp only [execStoreNative, outcome_next, bind_ok, requireOp_ok, nativeSpaces_ok, noFG_ok, nativePointer_ok, blockRead_ok,
    blockWrite_ok, advance_ok]
  constructor
  · rintro ⟨_, h1, _, h2, _, h3, _, ⟨hp, rfl⟩, _, ⟨hr, rfl⟩, _, ⟨hw, rfl⟩, h4, rfl⟩
    rw [Memory.readCells_length] at hw
    exact ⟨⟨h1, h2, h3⟩, hp, hr, hw, h4, rfl⟩
  · rintro ⟨⟨h1, h2, h3⟩, hp, hr, hw, h4, rfl⟩
    refine ⟨(), h1, (), h2, (), h3, _, ⟨hp, rfl⟩, _, ⟨hr, rfl⟩, _, ⟨?_, rfl⟩, h4, rfl⟩
    rw [Memory.readCells_length]; exact hw

/-- The pointer of `LOAD2` and `STORE2`. -/
abbrev State.pointer2 (s : State) (o : Operands) : Nat :=
  fadd s.cfg.p (fadd s.cfg.p (s.mem.read ⟨o.d, o.c⟩) (fmul s.cfg.p (s.mem.read ⟨o.d, o.f⟩) o.g)) o.b

theorem execLoad2_next {o : Operands} {s t : State} :
    execLoad2 o s = .next t ↔ opEnabled s.cfg .load2 = true ∧ (ValidSpace s.cfg o.d ∧ ValidSpace s.cfg o.e) ∧
      s.RangeOk o.d o.c 1 ∧ s.RangeOk o.d o.f 1 ∧ s.RangeOk o.e (s.pointer2 o) 1 ∧ s.RangeOk o.d o.a 1 ∧ s.StepOk ∧
        t = s.wrote o.d o.a [s.mem.read ⟨o.e, s.pointer2 o⟩] := by
  simp only [execLoad2, outcome_next, bind_ok, requireOp_ok, nativeSpaces_ok, indexedPointer_ok, cellRead_ok, memWrite_ok,
    advance_ok, List.length_singleton]
  constructor
  · rintro ⟨_, h1, _, h2, _, ⟨hc, hf, rfl⟩, _, ⟨hr, rfl⟩, _, ⟨hw, rfl⟩, h4, rfl⟩; exact ⟨h1, h2, hc, hf, hr, hw, h4, rfl⟩
  · rintro ⟨h1, h2, hc, hf, hr, hw, h4, rfl⟩
    exact ⟨(), h1, (), h2, _, ⟨hc, hf, rfl⟩, _, ⟨hr, rfl⟩, _, ⟨hw, rfl⟩, h4, rfl⟩

theorem execStore2_next {o : Operands} {s t : State} :
    execStore2 o s = .next t ↔ opEnabled s.cfg .store2 = true ∧ (ValidSpace s.cfg o.d ∧ ValidSpace s.cfg o.e) ∧
      s.RangeOk o.d o.c 1 ∧ s.RangeOk o.d o.f 1 ∧ s.RangeOk o.d o.a 1 ∧ s.RangeOk o.e (s.pointer2 o) 1 ∧ s.StepOk ∧
        t = s.wrote o.e (s.pointer2 o) [s.mem.read ⟨o.d, o.a⟩] := by
  simp only [execStore2, outcome_next, bind_ok, requireOp_ok, nativeSpaces_ok, indexedPointer_ok, cellRead_ok, memWrite_ok,
    advance_ok, List.length_singleton]
  constructor
  · rintro ⟨_, h1, _, h2, _, ⟨hc, hf, rfl⟩, _, ⟨hr, rfl⟩, _, ⟨hw, rfl⟩, h4, rfl⟩; exact ⟨h1, h2, hc, hf, hr, hw, h4, rfl⟩
  · rintro ⟨h1, h2, hc, hf, hr, hw, h4, rfl⟩
    exact ⟨(), h1, (), h2, _, ⟨hc, hf, rfl⟩, _, ⟨hr, rfl⟩, _, ⟨hw, rfl⟩, h4, rfl⟩

theorem execShintw_next {o : Operands} {s t : State} :
    execShintw o s = .next t ↔ s.NativeOk .shintw o ∧ o.a = 0 ∧ s.RangeOk o.d o.c 1 ∧ 1 ≤ s.hintStream.length ∧
      s.RangeOk o.e (fadd s.cfg.p (s.mem.read ⟨o.d, o.c⟩) o.b) 1 ∧ s.StepOk ∧
        t = { s.wrote o.e (fadd s.cfg.p (s.mem.read ⟨o.d, o.c⟩) o.b) (s.hintStream.take 1) with
          hintStream := s.hintStream.drop 1 } := by
  simp only [execShintw, outcome_next, bind_ok, requireOp_ok, require_ok, nativeSpaces_ok, noFG_ok, nativePointer_ok,
    hintPeek_ok, memWrite_ok, advance_ok]
  constructor
  · rintro ⟨_, h1, _, h0, _, h2, _, h3, _, ⟨hp, rfl⟩, _, ⟨hl, rfl⟩, _, ⟨hw, rfl⟩, h4, rfl⟩
    rw [List.length_take, Nat.min_eq_left hl] at hw
    exact ⟨⟨h1, h2, h3⟩, h0, hp, hl, hw, h4, rfl⟩
  · rintro ⟨⟨h1, h2, h3⟩, h0, hp, hl, hw, h4, rfl⟩
    refine ⟨(), h1, (), h0, (), h2, (), h3, _, ⟨hp, rfl⟩, _, ⟨hl, rfl⟩, _, ⟨?_, rfl⟩, h4, rfl⟩
    rw [List.length_take, Nat.min_eq_left hl]; exact hw

theorem execJal_next {o : Operands} {s t : State} :
    execJal o s = .next t ↔ opEnabled s.cfg .jal = true ∧ o.c = 0 ∧ ValidSpace s.cfg o.d ∧ (o.e = 0 ∧ o.f = 0 ∧ o.g = 0) ∧
      NativeOffset s.cfg o.b ∧ s.RangeOk o.d o.a 1 ∧ fadd s.cfg.p s.pc o.b < 2 ^ 30 ∧
        t = { s with mem := s.mem.writeCells o.d o.a [fadd s.cfg.p s.pc 4], pc := fadd s.cfg.p s.pc o.b } := by
  simp only [execJal, outcome_next, bind_ok, requireOp_ok, require_ok, memWrite_ok, nativeJumpBy_ok, List.length_singleton,
    State.nextPc]
  constructor
  · rintro ⟨_, h1, _, h0, _, h2, _, h3, _, hn, _, ⟨hw, rfl⟩, h4, rfl⟩; exact ⟨h1, h0, h2, h3, hn, hw, h4, rfl⟩
  · rintro ⟨h1, h0, h2, h3, hn, hw, h4, rfl⟩; exact ⟨(), h1, (), h0, (), h2, (), h3, (), hn, _, ⟨hw, rfl⟩, h4, rfl⟩

theorem execNativeBranch_next {op : Op} {sense : Bool} {w : Nat} {o : Operands} {s t : State} :
    execNativeBranch op sense w o s = .next t ↔ s.NativeOk op o ∧ NativeOffset s.cfg o.c ∧ s.BlockOk o.d o.a w ∧ s.BlockOk o.e o.b w ∧
      (if decide (s.mem.readCells o.d o.a w = s.mem.readCells o.e o.b w) = sense then s.nativeJumpBy o.c else s.advance)
        = .ok t := by
  simp only [execNativeBranch, outcome_next, bind_ok, requireOp_ok, nativeSpaces_ok, noFG_ok, require_ok, blockRead_ok]
  constructor
  · rintro ⟨_, h1, _, h2, _, h3, _, hn, _, ⟨ha, rfl⟩, _, ⟨hb, rfl⟩, h⟩; exact ⟨⟨h1, h2, h3⟩, hn, ha, hb, h⟩
  · rintro ⟨⟨h1, h2, h3⟩, hn, ha, hb, h⟩; exact ⟨(), h1, (), h2, (), h3, (), hn, _, ⟨ha, rfl⟩, _, ⟨hb, rfl⟩, h⟩

theorem publish_ok {s t : State} {i : Nat} {v : Nat} :
    s.publish i v = .ok t ↔ (s.publicValues.get? i = none ∧ t = { s with publicValues := s.publicValues.insert i v }) ∨
      (s.publicValues.get? i = some v ∧ t = s) := by
  unfold State.publish
  cases s.publicValues.get? i with
  | none => simp [eq_comm]
  | some u =>
    simp only [bind_ok, require_ok, pure_ok]
    constructor
    · rintro ⟨_, rfl, rfl⟩; exact .inr ⟨rfl, rfl⟩
    · rintro (⟨h, _⟩ | ⟨h, rfl⟩)
      · cases h
      · exact ⟨(), by simpa using h, rfl⟩

theorem execPublish_next {o : Operands} {s t : State} :
    execPublish o s = .next t ↔ s.NativeOk .publish o ∧ o.c = 0 ∧ s.RangeOk o.d o.a 1 ∧ s.RangeOk o.e o.b 1 ∧
      s.mem.read ⟨o.d, o.a⟩ < s.cfg.numPublicValues ∧ s.StepOk ∧
        ∃ u, s.publish (s.mem.read ⟨o.d, o.a⟩) (s.mem.read ⟨o.e, o.b⟩) = .ok u ∧
          t = { u with pc := fadd s.cfg.p s.pc 4 } := by
  simp only [execPublish, outcome_next, bind_ok, requireOp_ok, require_ok, nativeSpaces_ok, noFG_ok, cellRead_ok, advance_ok]
  have key : ∀ u i v, s.publish i v = .ok u → u.cfg = s.cfg ∧ u.pc = s.pc := by
    intro u i v h
    rcases publish_ok.1 h with ⟨_, rfl⟩ | ⟨_, rfl⟩ <;> exact ⟨rfl, rfl⟩
  constructor
  · rintro ⟨_, h1, _, h0, _, h2, _, h3, _, ⟨ha, rfl⟩, _, ⟨hb, rfl⟩, _, hi, u, hu, h4, rfl⟩
    obtain ⟨e1, e2⟩ := key _ _ _ hu
    rw [e1, e2] at h4
    exact ⟨⟨h1, h2, h3⟩, h0, ha, hb, hi, h4, u, hu, by rw [e1, e2]⟩
  · rintro ⟨⟨h1, h2, h3⟩, h0, ha, hb, hi, h4, u, hu, rfl⟩
    obtain ⟨e1, e2⟩ := key _ _ _ hu
    refine ⟨(), h1, (), h0, (), h2, (), h3, _, ⟨ha, rfl⟩, _, ⟨hb, rfl⟩, (), hi, u, hu, ?_, ?_⟩ <;> rw [e1, e2]
    exact h4

theorem execCastf_next {o : Operands} {s t : State} :
    execCastf o s = .next t ↔ s.NativeOk .castf o ∧ o.c = 0 ∧ s.RangeOk o.e o.b 1 ∧ s.mem.read ⟨o.e, o.b⟩ < 2 ^ 30 ∧
      s.BlockOk o.d o.a 4 ∧ s.StepOk ∧ t = s.wrote o.d o.a (leBytes (s.mem.read ⟨o.e, o.b⟩) 4) := by
  simp only [execCastf, outcome_next, bind_ok, requireOp_ok, require_ok, nativeSpaces_ok, noFG_ok, cellRead_ok, blockWrite_ok,
    advance_ok, leBytes_length]
  constructor
  · rintro ⟨_, h1, _, h0, _, h2, _, h3, _, ⟨hb, rfl⟩, _, hv, _, ⟨hw, rfl⟩, h4, rfl⟩
    exact ⟨⟨h1, h2, h3⟩, h0, hb, hv, hw, h4, rfl⟩
  · rintro ⟨⟨h1, h2, h3⟩, h0, hb, hv, hw, h4, rfl⟩
    exact ⟨(), h1, (), h0, (), h2, (), h3, _, ⟨hb, rfl⟩, (), hv, _, ⟨hw, rfl⟩, h4, rfl⟩

theorem execField_next {op : Op} {f : Nat → Nat → Nat → Except Fault Nat} {o : Operands} {s t : State} :
    execField op f o s = .next t ↔ opEnabled s.cfg op = true ∧ ValidSpace s.cfg o.d ∧ (o.e = 0 ∨ ValidSpace s.cfg o.e) ∧
      (o.f = 0 ∧ o.g = 0) ∧ s.RangeOk o.d o.b 1 ∧ ∃ y v, s.val o.e o.c = .ok y ∧
        f s.cfg.p (s.mem.read ⟨o.d, o.b⟩) y = .ok v ∧ s.RangeOk o.d o.a 1 ∧ s.StepOk ∧ t = s.wrote o.d o.a [v] := by
  simp only [execField, outcome_next, bind_ok, requireOp_ok, require_ok, noFG_ok, cellRead_ok, memWrite_ok, advance_ok,
    List.length_singleton]
  constructor
  · rintro ⟨_, h1, _, h2, _, h3, _, h4, _, ⟨hb, rfl⟩, y, hy, v, hv, _, ⟨hw, rfl⟩, h5, rfl⟩
    exact ⟨h1, h2, h3, h4, hb, y, v, hy, hv, hw, h5, rfl⟩
  · rintro ⟨h1, h2, h3, h4, hb, y, v, hy, hv, hw, h5, rfl⟩
    exact ⟨(), h1, (), h2, (), h3, (), h4, _, ⟨hb, rfl⟩, y, hy, v, hv, _, ⟨hw, rfl⟩, h5, rfl⟩

@[simp] theorem Ext.toList_length (x : Ext) : x.toList.length = 4 := rfl

theorem execExt_next {op : Op} {f : Nat → Ext → Ext → Except Fault Ext} {o : Operands} {s t : State} :
    execExt op f o s = .next t ↔ s.NativeOk op o ∧ s.BlockOk o.d o.b 4 ∧ s.BlockOk o.e o.c 4 ∧
      ∃ z, f s.cfg.p (Ext.ofList (s.mem.readCells o.d o.b 4)) (Ext.ofList (s.mem.readCells o.e o.c 4)) = .ok z ∧
        s.BlockOk o.d o.a 4 ∧ s.StepOk ∧ t = s.wrote o.d o.a z.toList := by
  simp only [execExt, outcome_next, bind_ok, requireOp_ok, nativeSpaces_ok, noFG_ok, blockRead_ok, blockWrite_ok, advance_ok,
    Ext.toList_length]
  constructor
  · rintro ⟨_, h1, _, h2, _, h3, _, ⟨hb, rfl⟩, _, ⟨hc, rfl⟩, z, hz, _, ⟨hw, rfl⟩, h4, rfl⟩
    exact ⟨⟨h1, h2, h3⟩, hb, hc, z, hz, hw, h4, rfl⟩
  · rintro ⟨⟨h1, h2, h3⟩, hb, hc, z, hz, hw, h4, rfl⟩
    exact ⟨(), h1, (), h2, (), h3, _, ⟨hb, rfl⟩, _, ⟨hc, rfl⟩, z, hz, _, ⟨hw, rfl⟩, h4, rfl⟩

@[simp] theorem poseidonPerm_length (p : Nat) (l : List Nat) : (poseidonPerm p l).length = 16 := by simp [poseidonPerm]

theorem lt_of_mem_poseidonPerm {p : Nat} (hp : 0 < p) {l : List Nat} {x : Nat} (h : x ∈ poseidonPerm p l) : x < p := by
  simp only [poseidonPerm, List.mem_map] at h
  obtain ⟨j, -, rfl⟩ := h
  exact Nat.mod_lt _ hp

theorem execCompressPoseidon2_next {o : Operands} {s t : State} :
    execCompressPoseidon2 o s = .next t ↔ s.NativeOk .compressPoseidon2 o ∧ s.RangeOk o.d o.a 1 ∧ s.RangeOk o.d o.b 1 ∧
      s.RangeOk o.d o.c 1 ∧ s.BlockOk o.e (s.mem.read ⟨o.d, o.b⟩) 8 ∧ s.BlockOk o.e (s.mem.read ⟨o.d, o.c⟩) 8 ∧
      s.BlockOk o.e (s.mem.read ⟨o.d, o.a⟩) 8 ∧ s.StepOk ∧
        t = s.wrote o.e (s.mem.read ⟨o.d, o.a⟩) ((poseidonPerm s.cfg.p (s.mem.readCells o.e (s.mem.read ⟨o.d, o.b⟩) 8 ++
          s.mem.readCells o.e (s.mem.read ⟨o.d, o.c⟩) 8)).take 8) := by
  simp only [execCompressPoseidon2, outcome_next, bind_ok, requireOp_ok, nativeSpaces_ok, noFG_ok, cellRead_ok, blockRead_ok,
    blockWrite_ok, advance_ok, List.length_take, poseidonPerm_length, show min 8 16 = 8 from rfl]
  constructor
  · rintro ⟨_, h1, _, h2, _, h3, _, ⟨ha, rfl⟩, _, ⟨hb, rfl⟩, _, ⟨hc, rfl⟩, _, ⟨hl, rfl⟩, _, ⟨hr, rfl⟩, _, ⟨hw, rfl⟩, h4, rfl⟩
    exact ⟨⟨h1, h2, h3⟩, ha, hb, hc, hl, hr, hw, h4, rfl⟩
  · rintro ⟨⟨h1, h2, h3⟩, ha, hb, hc, hl, hr, hw, h4, rfl⟩
    exact ⟨(), h1, (), h2, (), h3, _, ⟨ha, rfl⟩, _, ⟨hb, rfl⟩, _, ⟨hc, rfl⟩, _, ⟨hl, rfl⟩, _, ⟨hr, rfl⟩, _, ⟨hw, rfl⟩, h4, rfl⟩

theorem Memory.writeCells_append (m : Memory) (s q : Nat) (l r : List Nat) :
    m.writeCells s q (l ++ r) = (m.writeCells s q l).writeCells s (q + l.length) r := by
  induction l generalizing m q with
  | nil => simp [Memory.writeCells]
  | cons v vs ih =>
    simp only [List.cons_append, Memory.writeCells, ih, List.length_cons]
    congr 1; omega

theorem execPermPoseidon2_next {o : Operands} {s t : State} :
    execPermPoseidon2 o s = .next t ↔ s.NativeOk .permPoseidon2 o ∧ o.c = 0 ∧ s.RangeOk o.d o.a 1 ∧ s.RangeOk o.d o.b 1 ∧
      s.BlockOk o.e (s.mem.read ⟨o.d, o.b⟩) 8 ∧ s.BlockOk o.e (s.mem.read ⟨o.d, o.b⟩ + 8) 8 ∧
      s.BlockOk o.e (s.mem.read ⟨o.d, o.a⟩) 8 ∧ s.BlockOk o.e (s.mem.read ⟨o.d, o.a⟩ + 8) 8 ∧ s.StepOk ∧
        t = s.wrote o.e (s.mem.read ⟨o.d, o.a⟩) (poseidonPerm s.cfg.p (s.mem.readCells o.e (s.mem.read ⟨o.d, o.b⟩) 8 ++
          s.mem.readCells o.e (s.mem.read ⟨o.d, o.b⟩ + 8) 8)) := by
  simp only [execPermPoseidon2, outcome_next, bind_ok, requireOp_ok, require_ok, nativeSpaces_ok, noFG_ok, cellRead_ok,
    blockRead_ok, blockWrite_ok, advance_ok, List.length_take, List.length_drop, poseidonPerm_length,
    show min 8 16 = 8 from rfl, show 16 - 8 = 8 from rfl]
  have key : ∀ (m : Memory) (e q : Nat) (l : List Nat), l.length = 16 →
      (m.writeCells e q (l.take 8)).writeCells e (q + 8) (l.drop 8) = m.writeCells e q l := by
    intro m e q l hl
    conv_rhs => rw [← List.take_append_drop 8 l, Memory.writeCells_append]
    simp [hl]
  constructor
  · rintro ⟨_, h1, _, h0, _, h2, _, h3, _, ⟨ha, rfl⟩, _, ⟨hb, rfl⟩, _, ⟨hl, rfl⟩, _, ⟨hr, rfl⟩, _, ⟨hw, rfl⟩, _,
      ⟨hw', rfl⟩, h4, rfl⟩
    refine ⟨⟨h1, h2, h3⟩, h0, ha, hb, hl, hr, hw, hw', h4, ?_⟩
    simp only [State.wrote, key _ _ _ _ (poseidonPerm_length _ _)]
  · rintro ⟨⟨h1, h2, h3⟩, h0, ha, hb, hl, hr, hw, hw', h4, rfl⟩
    refine ⟨(), h1, (), h0, (), h2, (), h3, _, ⟨ha, rfl⟩, _, ⟨hb, rfl⟩, _, ⟨hl, rfl⟩, _, ⟨hr, rfl⟩, _, ⟨hw, rfl⟩, _,
      ⟨hw', rfl⟩, h4, ?_⟩
    simp only [State.wrote, key _ _ _ _ (poseidonPerm_length _ _)]

end Sys2Proof.Machine
end

