-- ==== Sys2Proof/Laws/State.lean ====
section
/-!
SUPPORT. What each named update of the state does to each field. All are true by unfolding.
-/

namespace Sys2Proof.Machine

@[simp] theorem State.hintDrop_cfg (s : State) (n : Nat) : (s.hintDrop n).cfg = s.cfg := rfl
@[simp] theorem State.hintDrop_prog (s : State) (n : Nat) : (s.hintDrop n).prog = s.prog := rfl
@[simp] theorem State.hintDrop_pc (s : State) (n : Nat) : (s.hintDrop n).pc = s.pc := rfl
@[simp] theorem State.hintDrop_mem (s : State) (n : Nat) : (s.hintDrop n).mem = s.mem := rfl
@[simp] theorem State.hintDrop_inputStream (s : State) (n : Nat) : (s.hintDrop n).inputStream = s.inputStream := rfl
@[simp] theorem State.hintDrop_hintStream (s : State) (n : Nat) : (s.hintDrop n).hintStream = s.hintStream.drop n := rfl
@[simp] theorem State.hintDrop_publicValues (s : State) (n : Nat) : (s.hintDrop n).publicValues = s.publicValues := rfl
@[simp] theorem State.hintDrop_status (s : State) (n : Nat) : (s.hintDrop n).status = s.status := rfl
@[simp] theorem State.hintDrop_hostLog (s : State) (n : Nat) : (s.hintDrop n).hostLog = s.hostLog := rfl
@[simp] theorem State.hintDrop_draws (s : State) (n : Nat) : (s.hintDrop n).draws = s.draws := rfl

@[simp] theorem State.drew_cfg (s : State) (n : Nat) : (s.drew n).cfg = s.cfg := rfl
@[simp] theorem State.drew_prog (s : State) (n : Nat) : (s.drew n).prog = s.prog := rfl
@[simp] theorem State.drew_pc (s : State) (n : Nat) : (s.drew n).pc = s.pc := rfl
@[simp] theorem State.drew_mem (s : State) (n : Nat) : (s.drew n).mem = s.mem := rfl
@[simp] theorem State.drew_inputStream (s : State) (n : Nat) : (s.drew n).inputStream = s.inputStream := rfl
@[simp] theorem State.drew_hintStream (s : State) (n : Nat) : (s.drew n).hintStream = s.hintStream := rfl
@[simp] theorem State.drew_publicValues (s : State) (n : Nat) : (s.drew n).publicValues = s.publicValues := rfl
@[simp] theorem State.drew_status (s : State) (n : Nat) : (s.drew n).status = s.status := rfl
@[simp] theorem State.drew_hostLog (s : State) (n : Nat) : (s.drew n).hostLog = s.hostLog := rfl
@[simp] theorem State.drew_draws (s : State) (n : Nat) : (s.drew n).draws = s.draws + n := rfl

@[simp] theorem State.log_cfg (s : State) (ev : HostEvent) : (s.log ev).cfg = s.cfg := rfl
@[simp] theorem State.log_prog (s : State) (ev : HostEvent) : (s.log ev).prog = s.prog := rfl
@[simp] theorem State.log_pc (s : State) (ev : HostEvent) : (s.log ev).pc = s.pc := rfl
@[simp] theorem State.log_mem (s : State) (ev : HostEvent) : (s.log ev).mem = s.mem := rfl
@[simp] theorem State.log_inputStream (s : State) (ev : HostEvent) : (s.log ev).inputStream = s.inputStream := rfl
@[simp] theorem State.log_hintStream (s : State) (ev : HostEvent) : (s.log ev).hintStream = s.hintStream := rfl
@[simp] theorem State.log_publicValues (s : State) (ev : HostEvent) : (s.log ev).publicValues = s.publicValues := rfl
@[simp] theorem State.log_status (s : State) (ev : HostEvent) : (s.log ev).status = s.status := rfl
@[simp] theorem State.log_hostLog (s : State) (ev : HostEvent) : (s.log ev).hostLog = s.hostLog ++ [ev] := rfl
@[simp] theorem State.log_draws (s : State) (ev : HostEvent) : (s.log ev).draws = s.draws := rfl

@[simp] theorem State.withEntry_cfg (s : State) (e : RomEntry) : (s.withEntry e).cfg = s.cfg := rfl
@[simp] theorem State.withEntry_prog (s : State) (e : RomEntry) : (s.withEntry e).prog = s.prog.insert s.pc e := rfl
@[simp] theorem State.withEntry_pc (s : State) (e : RomEntry) : (s.withEntry e).pc = s.pc := rfl
@[simp] theorem State.withEntry_mem (s : State) (e : RomEntry) : (s.withEntry e).mem = s.mem := rfl
@[simp] theorem State.withEntry_inputStream (s : State) (e : RomEntry) : (s.withEntry e).inputStream = s.inputStream := rfl
@[simp] theorem State.withEntry_hintStream (s : State) (e : RomEntry) : (s.withEntry e).hintStream = s.hintStream := rfl
@[simp] theorem State.withEntry_publicValues (s : State) (e : RomEntry) : (s.withEntry e).publicValues = s.publicValues := rfl
@[simp] theorem State.withEntry_status (s : State) (e : RomEntry) : (s.withEntry e).status = s.status := rfl
@[simp] theorem State.withEntry_hostLog (s : State) (e : RomEntry) : (s.withEntry e).hostLog = s.hostLog := rfl
@[simp] theorem State.withEntry_draws (s : State) (e : RomEntry) : (s.withEntry e).draws = s.draws := rfl

end Sys2Proof.Machine
end

