-- ==== Sys2Proof/Laws/Statements.lean ====
section
/-!
SUPPORT. From the terms of the statements to the operations of the machine: what a register or a row of cells holds decides what a read
answers, and the state an instruction builds is one it `Wrote`.
-/

namespace Sys2Proof.Machine

/-! ### Configurations -/

theorem Config.Wf.prime_gt {cfg : Config} (h : cfg.Wf) : 2 ^ 30 + 2 ^ 25 < cfg.p := by
  have := h.1
  norm_num at this ⊢; omega

theorem Config.Wf.validSpace {cfg : Config} (h : cfg.Wf) {s : Nat} (h1 : 1 ≤ s) (h4 : s ≤ 4) : ValidSpace cfg s := by
  obtain ⟨-, -, h1', h4', -⟩ := h
  exact ⟨by omega, by omega, by omega⟩

theorem fadd_four {s : State} (h : s.cfg.Wf) (hp : s.pc + 4 < 2 ^ 30) : fadd s.cfg.p s.pc 4 = s.pc + 4 :=
  Nat.mod_eq_of_lt (by have := Config.Wf.prime_gt h; omega)

theorem stepOk_of_ready {s : State} {op : Op} (h : s.Ready op) : s.StepOk := by
  rw [State.StepOk, fadd_four h.1 h.2.2]; exact h.2.2

theorem fadd_lt {p x y : Nat} (h : 0 < p) : fadd p x y < p := Nat.mod_lt _ h

theorem centred_congr {p : Nat} (c : Nat) : (centred p c : Int) ≡ c [ZMOD p] := by
  unfold centred
  split_ifs
  · rfl
  · simp [Int.ModEq]

/-- A field sum whose integer value is a location is that location. -/
theorem fadd_eq_of_int {p pc c q : Nat} (hp : q < p) (h : (q : Int) = pc + centred p c) : fadd p pc c = q := by
  have h1 : (q : Int) ≡ ((pc + c : Nat) : Int) [ZMOD p] := by
    rw [h]; push_cast; exact (centred_congr c).add_left _
  have h2 : q ≡ pc + c [MOD p] := (Int.natCast_modEq_iff).1 h1
  unfold fadd
  rw [← h2, Nat.mod_eq_of_lt hp]

/-! ### Registers and rows -/

theorem regOk_of_regPtr {s : State} (h : s.cfg.Wf) {q : Nat} (hq : s.RegPtr q) : s.RegOk q :=
  ⟨⟨Config.Wf.validSpace h (by norm_num) (by norm_num), hq.2⟩, by decide, hq.1⟩

theorem readCells_of_bytes {m : Memory} {sp q n v : Nat} (h : ∀ k < n, m.read ⟨sp, q + k⟩ = byteOf v k) :
    m.readCells sp q n = leBytes v n := by
  apply List.ext_getElem
  · simp
  · intro i h1 h2
    rw [Memory.readCells_getElem, leBytes_getElem]
    exact h i (by simpa using h2)

/-- What a register holds is what a read answers. -/
theorem reg32_of_holds {s : State} (h : s.cfg.Wf) {q : Nat} {x : Word} (hx : s.Holds q x) : s.reg32 q = .ok x :=
  reg32_ok.2 ⟨regOk_of_regPtr h hx.1, readCells_of_bytes hx.2⟩

theorem toInt_ofNat_of_lt {q : Nat} (h : q < 2 ^ 31) : (BitVec.ofNat 32 q).toInt = q := by
  rw [BitVec.toInt_eq_toNat_cond, BitVec.toNat_ofNat, Nat.mod_eq_of_lt (by omega), if_pos (by omega)]

theorem regPointer_of_pointsTo {s : State} (h : s.cfg.Wf) {r q n b : Nat} (hr : s.PointsTo r q n b) :
    s.regPointer r n b = .ok q :=
  regPointer_ok.2 ⟨_, reg32_of_holds h hr.2.2.1, toInt_ofNat_of_lt hr.2.2.2, hr.2.1, hr.1⟩

theorem rangeOk_of_fits {s : State} {sp q n : Nat} (hs : ValidSpace s.cfg sp) (h : s.Fits q n) : s.RangeOk sp q n := ⟨hs, h⟩

theorem lt_of_holdsBytes {s : State} {sp q n v : Nat} (h : s.HoldsBytes sp q n v) : ∀ x ∈ s.mem.readCells sp q n, x < 256 := by
  intro x hx
  obtain ⟨i, hi, rfl⟩ := Memory.mem_readCells.1 hx
  rw [h.2 i hi]; exact Nat.mod_lt _ (by norm_num)

theorem leNat_of_holdsBytes {s : State} {sp q n v : Nat} (h : s.HoldsBytes sp q n v) : leNat (s.mem.readCells sp q n) = v := by
  rw [readCells_of_bytes h.2, leNat_leBytes, Nat.mod_eq_of_lt h.1]

/-- The bytes of a row, loaded through the register that points to it. -/
theorem loadBytes_of_holds {s : State} (h : s.cfg.Wf) {r q n b v : Nat} (hr : s.PointsTo r q n b) (hv : s.HoldsBytes 2 q n v) :
    s.loadBytes r n b = .ok (leBytes v n) :=
  loadBytes_ok.2 ⟨q, regPointer_of_pointsTo h hr, ⟨Config.Wf.validSpace h (by norm_num) (by norm_num), hr.2.1⟩,
    fun _ hx => lt_of_mem_leBytes hx, readCells_of_bytes hv.2⟩

theorem load256_of_holds {s : State} (h : s.cfg.Wf) {r q : Nat} {x : Wide} (hr : s.PointsTo r q 32 32)
    (hv : s.HoldsBytes 2 q 32 x.toNat) : s.load256 r = .ok x :=
  load256_ok.2 ⟨q, regPointer_of_pointsTo h hr, ⟨Config.Wf.validSpace h (by norm_num) (by norm_num), hr.2.1⟩,
    readCells_of_bytes hv.2⟩

/-- Any 32 registers hold what `Registers` says. -/
theorem holds_of_registers {s : State} {x : BitVec 5 → Word} (h : s.Registers x) (r : BitVec 5) : s.Holds (4 * r.toNat) (x r) := by
  refine ⟨⟨Nat.mul_mod_right 4 _, ?_⟩, h.2 r⟩
  have h1 := h.1
  have h2 := r.isLt
  unfold State.Fits at *
  omega

/-! ### What was written -/

theorem leBytes_getD {v n k : Nat} (h : k < n) : (leBytes v n).getD k 0 = byteOf v k := by
  rw [List.getD_eq_getElem _ _ (by simpa using h), leBytes_getElem]

/-- A state that differs in `pc` and one row of cells. -/
theorem wrote_of_row {s : State} {c sp q n : Nat} {f : Nat → Nat} {l : List Nat} (hn : l.length = n)
    (hf : ∀ k < n, l.getD k 0 = f k) : Wrote s { s with mem := s.mem.writeCells sp q l, pc := c } c sp q n f where
  rest := rfl
  row k hk := by
    show (s.mem.writeCells sp q l).read ⟨sp, q + k⟩ = f k
    rw [Memory.read_writeCells, if_pos ⟨rfl, by simp, by simp only; omega⟩]
    simpa using hf k hk
  frame j hj := by
    show (s.mem.writeCells sp q l).read j = s.mem.read j
    rw [Memory.read_writeCells, if_neg (by rw [hn]; exact hj)]

/-- The state after the default step with a row written. -/
theorem wrote_of_ready {s : State} {op : Op} (h : s.Ready op) {sp q n : Nat} {f : Nat → Nat} {l : List Nat}
    (hn : l.length = n) (hf : ∀ k < n, l.getD k 0 = f k) : Wrote s (s.wrote sp q l) (s.pc + 4) sp q n f := by
  have := wrote_of_row (s := s) (c := s.pc + 4) (sp := sp) (q := q) hn hf
  rwa [← fadd_four h.1 h.2.2] at this ⊢

/-- The state after the default step with the bytes of a number written. -/
theorem wrote_bytes_of_ready {s : State} {op : Op} (h : s.Ready op) {sp q n v : Nat} :
    Wrote s (s.wrote sp q (leBytes v n)) (s.pc + 4) sp q n (byteOf v) :=
  wrote_of_ready h (by simp) fun _ hk => leBytes_getD hk

theorem Wrote.congr {s t : State} {c sp q n : Nat} {f g : Nat → Nat} (h : Wrote s t c sp q n f) (hfg : ∀ k < n, f k = g k) :
    Wrote s t c sp q n g := ⟨h.rest, fun k hk => (h.row k hk).trans (hfg k hk), h.frame⟩

end Sys2Proof.Machine
end

