-- ==== Sys2Proof/Laws/Effect.lean ====
section
/-!
SUPPORT. What every instruction other than the system ones can do at most: set `pc`, write one row of cells, take hint elements from the
front of their queue, and count free choices.
-/

namespace Sys2Proof.Machine

/-- A value that an instruction may write to a cell: a field element, or one that the machine already holds. -/
def State.Known (s : State) (v : Nat) : Prop :=
  s.cfg.Wf → v < s.cfg.p ∨ (∃ k, v = s.mem.read k) ∨ v ∈ s.hintStream

/-- At most one row of cells was written, with known values, and with bytes where `raw` is false. -/
def State.RowWritten (s t : State) (raw : Bool) : Prop :=
  t.mem = s.mem ∨ ∃ sp q l, s.RangeOk sp q l.length ∧ t.mem = s.mem.writeCells sp q l ∧ (∀ v ∈ l, s.Known v) ∧
    (raw = false → ∀ v ∈ l, v < 256)

/-- An instruction set `pc`, wrote at most one row, took `n` hint elements and made `m` free choices. -/
structure Plain (raw : Bool) (n m : Nat) (s t : State) : Prop where
  rest : t = { s with pc := t.pc, mem := t.mem, hintStream := s.hintStream.drop n, draws := s.draws + m }
  pc : s.cfg.Wf → t.pc < 2 ^ 30
  row : s.RowWritten t raw

theorem known_of_byte {s : State} {v : Nat} (h : v < 256) : s.Known v := fun hw => .inl (by have := Config.Wf.prime_gt hw; omega)

theorem known_of_mod {s : State} (v : Nat) : s.Known (v % s.cfg.p) :=
  fun hw => .inl (Nat.mod_lt _ (by have := Config.Wf.prime_gt hw; omega))

theorem known_of_cells {s : State} {sp q n v : Nat} (h : v ∈ s.mem.readCells sp q n) : s.Known v := by
  obtain ⟨i, -, rfl⟩ := Memory.mem_readCells.1 h
  exact fun _ => .inr (.inl ⟨_, rfl⟩)

/-- A row of bytes. -/
theorem rowWritten_bytes {s t : State} {sp q : Nat} {l : List Nat} (raw : Bool) (hr : s.RangeOk sp q l.length)
    (hm : t.mem = s.mem.writeCells sp q l) (h8 : ∀ v ∈ l, v < 256) : s.RowWritten t raw :=
  .inr ⟨sp, q, l, hr, hm, fun _ hv => known_of_byte (h8 _ hv), fun _ => h8⟩

/-- A row of known values. -/
theorem rowWritten_raw {s t : State} {sp q : Nat} {l : List Nat} (hr : s.RangeOk sp q l.length)
    (hm : t.mem = s.mem.writeCells sp q l) (hk : ∀ v ∈ l, s.Known v) : s.RowWritten t true :=
  .inr ⟨sp, q, l, hr, hm, hk, fun h => (by cases h)⟩

/-- The default step with a row of bytes. -/
theorem plain_bytes {s : State} {sp q : Nat} {l : List Nat} (h : s.StepOk) (hr : s.RangeOk sp q l.length)
    (h8 : ∀ v ∈ l, v < 256) : Plain false 0 0 s (s.wrote sp q l) :=
  ⟨rfl, fun _ => h, rowWritten_bytes _ hr rfl h8⟩

/-- The default step with a row of known values. -/
theorem plain_raw {s : State} {sp q : Nat} {l : List Nat} (h : s.StepOk) (hr : s.RangeOk sp q l.length)
    (hk : ∀ v ∈ l, s.Known v) : Plain true 0 0 s (s.wrote sp q l) :=
  ⟨rfl, fun _ => h, rowWritten_raw hr rfl hk⟩

theorem rangeOk_leBytes {s : State} {sp q n v : Nat} (h : s.RangeOk sp q n) : s.RangeOk sp q (leBytes v n).length := by
  rw [leBytes_length]; exact h

theorem plain_reg {s : State} {q v : Nat} (h : s.StepOk) (hr : s.RegOk q) : Plain false 0 0 s (s.wrote 1 q (leBytes v 4)) :=
  plain_bytes h (rangeOk_leBytes hr.1) fun _ hv => lt_of_mem_leBytes hv

/-! ### Transfers -/

theorem fadd_pc_lt {s : State} {c : Nat} (hw : s.cfg.Wf) (h0 : 0 ≤ (s.pc : Int) + centred s.cfg.p c)
    (h1 : (s.pc : Int) + centred s.cfg.p c < 2 ^ 30) : fadd s.cfg.p s.pc c < 2 ^ 30 := by
  have hp := Config.Wf.prime_gt hw
  obtain ⟨q, hq⟩ := Int.eq_ofNat_of_zero_le h0
  have hlt : q < 2 ^ 30 := by omega
  rw [fadd_eq_of_int (q := q) (by omega) (by rw [hq])]
  exact hlt

theorem plain_jumpBy {s u t : State} {c : Nat} (hc : u.cfg = s.cfg) (hp : u.pc = s.pc) (hr : u = { s with mem := u.mem })
    (hrow : s.RowWritten u false) (h : u.jumpBy c = .ok t) : Plain false 0 0 s t := by
  obtain ⟨⟨h0, h1⟩, rfl⟩ := jumpBy_ok.1 h
  refine ⟨?_, fun hw => ?_, hrow⟩
  · rw [hr]; rfl
  · rw [hc, hp] at h0 h1
    simp only [hc, hp]
    exact fadd_pc_lt hw h0 h1

theorem plain_branch {s t : State} {b : Bool} {c : Nat} (h : (if b = true then s.jumpBy c else s.advance) = .ok t) :
    Plain false 0 0 s t := by
  cases b with
  | true => exact plain_jumpBy rfl rfl rfl (.inl rfl) h
  | false =>
    obtain ⟨h4, rfl⟩ := advance_ok.1 h
    exact ⟨rfl, fun _ => h4, .inl rfl⟩

theorem link_row {s u : State} {a f : Nat} (h : s.link a f = .ok u) :
    u = { s with mem := u.mem } ∧ s.RowWritten u false := by
  rcases link_ok.1 h with ⟨-, rfl⟩ | ⟨-, hr, rfl⟩
  · exact ⟨rfl, .inl rfl⟩
  · exact ⟨rfl, rowWritten_bytes _ (rangeOk_leBytes hr.1) rfl fun _ hv => lt_of_mem_leBytes hv⟩

/-! ### The skeletons -/

theorem execAlu_plain {op f o s t} (h : execAlu op f o s = .next t) : Plain false 0 0 s t := by
  obtain ⟨-, -, -, _, _, -, -, hr, h4, rfl⟩ := execAlu_next.1 h
  exact plain_reg h4 hr

theorem execLoad_plain {op n conv o s t} (h : execLoad op n conv o s = .next t) : Plain false 0 0 s t := by
  obtain ⟨hl, _, -, -, -, h4, rfl⟩ := execLoad_next.1 h
  exact plain_reg h4 hl.2.2.2.2.1

theorem execStore_plain {op n o s t} (h : execStore op n o s = .next t) : Plain false 0 0 s t := by
  obtain ⟨-, h8, _, -, hr, h4, rfl⟩ := execStore_next.1 h
  exact plain_bytes h4 hr fun v hv => h8 v (List.mem_of_mem_take hv)

theorem execReveal_plain {o s t} (h : execRevealRv32 o s = .next t) : Plain false 0 0 s t := by
  obtain ⟨-, -, -, -, -, h8, _, -, hr, h4, rfl⟩ := execRevealRv32_next.1 h
  exact plain_bytes h4 (by rw [Memory.readCells_length]; exact hr) h8

theorem execBranch_plain {op cond o s t} (h : execBranch op cond o s = .next t) : Plain false 0 0 s t := by
  obtain ⟨-, -, -, _, _, -, -, h⟩ := execBranch_next.1 h
  exact plain_branch h

theorem execJalRv32_plain {o s t} (h : execJalRv32 o s = .next t) : Plain false 0 0 s t := by
  obtain ⟨-, -, -, u, hu, h⟩ := execJalRv32_next.1 h
  obtain ⟨hr, hrow⟩ := link_row hu
  exact plain_jumpBy (by rw [hr]) (by rw [hr]) hr hrow h

theorem execJalrRv32_plain {o s t} (h : execJalrRv32 o s = .next t) : Plain false 0 0 s t := by
  obtain ⟨-, -, -, _, u, -, hu, -, h⟩ := execJalrRv32_next.1 h
  obtain ⟨hr, hrow⟩ := link_row hu
  obtain ⟨h4, rfl⟩ := setPc_ok.1 h
  refine ⟨?_, fun _ => h4, hrow⟩
  rw [hr]; rfl

theorem execLui_plain {o s t} (h : execLuiRv32 o s = .next t) : Plain false 0 0 s t := by
  obtain ⟨-, -, -, hr, h4, rfl⟩ := execLuiRv32_next.1 h
  exact plain_reg h4 hr

theorem execAuipc_plain {o s t} (h : execAuipcRv32 o s = .next t) : Plain false 0 0 s t := by
  obtain ⟨-, -, -, hr, h4, rfl⟩ := execAuipcRv32_next.1 h
  exact plain_reg h4 hr

theorem execMulDiv_plain {op f o s t} (h : execMulDiv op f o s = .next t) : Plain false 0 0 s t := by
  obtain ⟨-, -, _, _, -, -, hr, h4, rfl⟩ := execMulDiv_next.1 h
  exact plain_reg h4 hr

theorem execHintstorew_plain {o s t} (h : execHintstorewRv32 o s = .next t) : Plain false 4 0 s t := by
  obtain ⟨-, -, -, q, -, hl, h8, hr, h4, rfl⟩ := execHintstorewRv32_next.1 h
  refine ⟨rfl, fun _ => h4, rowWritten_bytes _ ?_ rfl h8⟩
  rw [List.length_take, Nat.min_eq_left hl]; exact hr.1

theorem execKeccak_plain {o s t} (h : execKeccak256Rv32 o s = .next t) : Plain false 0 0 s t := by
  obtain ⟨-, -, he, _, _, _, dst, _, _, -, -, -, -, -, -, -, hd, -, -, h4, rfl⟩ := execKeccak256Rv32_next.1 h
  exact plain_bytes h4 ⟨he, by rw [keccakDigest_length]; exact hd⟩ fun _ hv => lt_of_mem_keccakDigest hv

theorem execInt256_plain {op f o s t} (h : execInt256 op f o s = .next t) : Plain false 0 0 s t := by
  obtain ⟨-, -, _, _, _, -, -, -, hr, h4, rfl⟩ := execInt256_next.1 h
  exact plain_bytes h4 (rangeOk_leBytes hr) fun _ hv => lt_of_mem_leBytes hv

theorem execBranch256_plain {op cond o s t} (h : execBranch256 op cond o s = .next t) : Plain false 0 0 s t := by
  obtain ⟨-, -, -, _, _, -, -, h⟩ := execBranch256_next.1 h
  exact plain_branch h

theorem execModular_plain {op f i o s t} (h : execModular op f i o s = .next t) : Plain false 0 1 s t := by
  obtain ⟨-, -, _, _, _, _, _, -, -, -, -, -, hr, h4, rfl⟩ := execModular_next.1 h
  exact ⟨rfl, fun _ => h4, rowWritten_bytes _ (rangeOk_leBytes hr) rfl fun _ hv => lt_of_mem_leBytes hv⟩

theorem execIseqmod_plain {i o s t} (h : execIseqmodRv32 i o s = .next t) : Plain false 0 0 s t := by
  obtain ⟨-, -, _, _, _, -, -, -, -, hr, h4, rfl⟩ := execIseqmodRv32_next.1 h
  exact plain_reg h4 hr

theorem plain_point {s : State} {c : Curve} {q : Nat} {x y : Int} (h : s.StepOk) (hr : s.RangeOk 2 q (2 * c.coordSize)) :
    Plain false 0 2 s (s.wrotePoint c q x y) := by
  refine ⟨rfl, fun _ => h, rowWritten_bytes _ ?_ rfl fun v hv => ?_⟩
  · rw [pointCells_length]; exact hr
  · rcases List.mem_append.1 hv with hv | hv <;> exact lt_of_mem_leBytes hv

theorem execSwAddNe_plain {i o s t} (h : execSwAddNe i o s = .next t) : Plain false 0 2 s t := by
  obtain ⟨-, -, _, _, _, _, _, _, -, -, -, -, -, -, hr, h4, rfl⟩ := execSwAddNe_next.1 h
  exact plain_point h4 hr

theorem execSwDouble_plain {i o s t} (h : execSwDouble i o s = .next t) : Plain false 0 2 s t := by
  obtain ⟨-, -, _, _, _, _, -, -, -, -, -, hr, h4, rfl⟩ := execSwDouble_next.1 h
  exact plain_point h4 hr

/-! ### The native kernel -/

theorem execLoadNative_plain {w o s t} (h : execLoadNative w o s = .next t) : Plain true 0 0 s t := by
  obtain ⟨-, -, -, hr, h4, rfl⟩ := execLoadNative_next.1 h
  exact plain_raw h4 (by rw [Memory.readCells_length]; exact hr.1) fun _ hv => known_of_cells hv

theorem execStoreNative_plain {w o s t} (h : execStoreNative w o s = .next t) : Plain true 0 0 s t := by
  obtain ⟨-, -, -, hr, h4, rfl⟩ := execStoreNative_next.1 h
  exact plain_raw h4 (by rw [Memory.readCells_length]; exact hr.1) fun _ hv => known_of_cells hv

theorem known_singleton {s : State} {u : Nat} (h : s.Known u) : ∀ v ∈ [u], s.Known v := by
  intro v hv
  rw [List.mem_singleton.1 hv]; exact h

theorem known_of_read {s : State} (k : Loc) : s.Known (s.mem.read k) := fun _ => .inr (.inl ⟨k, rfl⟩)

theorem execLoad2_plain {o s t} (h : execLoad2 o s = .next t) : Plain true 0 0 s t := by
  obtain ⟨-, -, -, -, -, hr, h4, rfl⟩ := execLoad2_next.1 h
  exact plain_raw h4 hr (known_singleton (known_of_read _))

theorem execStore2_plain {o s t} (h : execStore2 o s = .next t) : Plain true 0 0 s t := by
  obtain ⟨-, -, -, -, -, hr, h4, rfl⟩ := execStore2_next.1 h
  exact plain_raw h4 hr (known_singleton (known_of_read _))

theorem execShintw_plain {o s t} (h : execShintw o s = .next t) : Plain true 1 0 s t := by
  obtain ⟨-, -, -, hl, hr, h4, rfl⟩ := execShintw_next.1 h
  refine ⟨rfl, fun _ => h4, rowWritten_raw ?_ rfl fun _ hv _ => .inr (.inr (List.mem_of_mem_take hv))⟩
  rw [List.length_take, Nat.min_eq_left hl]; exact hr

theorem execJal_plain {o s t} (h : execJal o s = .next t) : Plain true 0 0 s t := by
  obtain ⟨-, -, -, -, -, hr, h4, rfl⟩ := execJal_next.1 h
  exact ⟨rfl, fun _ => h4, rowWritten_raw hr rfl (known_singleton (known_of_mod _))⟩

theorem execNativeBranch_plain {op sense w o s t} (h : execNativeBranch op sense w o s = .next t) : Plain true 0 0 s t := by
  obtain ⟨-, -, -, -, h⟩ := execNativeBranch_next.1 h
  split_ifs at h
  · obtain ⟨h4, rfl⟩ := nativeJumpBy_ok.1 h; exact ⟨rfl, fun _ => h4, .inl rfl⟩
  · obtain ⟨h4, rfl⟩ := advance_ok.1 h; exact ⟨rfl, fun _ => h4, .inl rfl⟩

theorem execCastf_plain {o s t} (h : execCastf o s = .next t) : Plain true 0 0 s t := by
  obtain ⟨-, -, -, -, hr, h4, rfl⟩ := execCastf_next.1 h
  exact plain_raw h4 (rangeOk_leBytes hr.1) fun _ hv => known_of_byte (lt_of_mem_leBytes hv)

/-- The field operations answer field elements. -/
theorem execField_plain {op f o s t} (hf : ∀ x y v, f s.cfg.p x y = .ok v → s.Known v) (h : execField op f o s = .next t) :
    Plain true 0 0 s t := by
  obtain ⟨-, -, -, -, -, y, v, -, hv, hr, h4, rfl⟩ := execField_next.1 h
  exact plain_raw h4 hr (known_singleton (hf _ _ _ hv))

/-- The extension field operations answer field elements. -/
theorem execExt_plain {op f o s t} (hf : ∀ x y z, f s.cfg.p x y = .ok z → ∀ v ∈ z.toList, s.Known v)
    (h : execExt op f o s = .next t) : Plain true 0 0 s t := by
  obtain ⟨-, -, -, z, hz, hr, h4, rfl⟩ := execExt_next.1 h
  exact plain_raw h4 hr.1 (hf _ _ _ hz)

theorem known_of_poseidon {s : State} {l : List Nat} {v : Nat} (h : v ∈ poseidonPerm s.cfg.p l) : s.Known v :=
  fun hw => .inl (lt_of_mem_poseidonPerm (by have := Config.Wf.prime_gt hw; omega) h)

theorem execCompress_plain {o s t} (h : execCompressPoseidon2 o s = .next t) : Plain true 0 0 s t := by
  obtain ⟨-, -, -, -, -, -, hr, h4, rfl⟩ := execCompressPoseidon2_next.1 h
  refine plain_raw h4 ?_ fun v hv => known_of_poseidon (List.mem_of_mem_take hv)
  rw [List.length_take, poseidonPerm_length]; exact hr.1

theorem execPerm_plain {o s t} (h : execPermPoseidon2 o s = .next t) : Plain true 0 0 s t := by
  obtain ⟨-, -, -, -, -, -, hr, hr', h4, rfl⟩ := execPermPoseidon2_next.1 h
  refine plain_raw h4 ⟨hr.1.1, ?_⟩ fun v hv => known_of_poseidon hv
  rw [poseidonPerm_length]
  have := hr'.1.2
  omega

/-! ### What a plain instruction keeps -/

/-- The entries of memory after a plain instruction lie in valid spaces, below the pointer bound, and hold old or known values. -/
theorem State.RowWritten.cells {s t : State} {raw : Bool} (h : s.RowWritten t raw) {x : Loc × Nat} (hx : x ∈ t.mem) :
    x ∈ s.mem ∨ (ValidSpace s.cfg x.1.space ∧ x.1.ptr < 2 ^ s.cfg.pointerMaxBits ∧ s.Known x.2) := by
  rcases h with h | ⟨sp, q, l, hr, hm, hk, -⟩
  · rw [h] at hx; exact .inl hx
  · rw [hm] at hx
    rcases Memory.mem_writeCells hx with hx | ⟨h1, h2, h3, h4⟩
    · exact .inl hx
    · refine .inr ⟨by rw [h1]; exact hr.1, ?_, hk _ h4⟩
      have := hr.2
      omega

theorem State.RowWritten.wf {s t : State} {raw : Bool} (h : s.RowWritten t raw) (hm : s.mem.wf) : t.mem.wf := by
  rcases h with h | ⟨sp, q, l, -, h, -, -⟩ <;> rw [h]
  · exact hm
  · exact Memory.writeCells_wf hm _ _ _

/-- A row of bytes keeps bytes. -/
theorem State.RowWritten.byte {s t : State} (h : s.RowWritten t false) {k : Loc} (hk : s.mem.read k < 256) : t.mem.read k < 256 := by
  rcases h with h | ⟨sp, q, l, -, h, -, h8⟩ <;> rw [h]
  · exact hk
  · rw [Memory.read_writeCells]
    split_ifs with hc
    · rw [List.getD_eq_getElem _ _ (by omega)]
      exact h8 rfl _ (List.getElem_mem _)
    · exact hk

end Sys2Proof.Machine
end

