-- ==== Sys2Proof/Laws/Encoding.lean ====
section
/-!
SUPPORT. The fields of a packed word are the ones it was packed from, and a word is packed from its fields.
-/

namespace Sys2Proof

theorem append_toNat {a b : Nat} (x : BitVec a) (y : BitVec b) : (x ++ y).toNat = x.toNat * 2 ^ b + y.toNat := by
  rw [BitVec.toNat_append, Nat.shiftLeft_eq, Nat.mul_comm, ← Nat.two_pow_add_eq_or_of_lt y.isLt]

section fields

variable (f7 : BitVec 7) (rs2 rs1 : BitVec 5) (f3 : BitVec 3) (rd : BitVec 5) (opc : BitVec 7)

theorem packWord_toNat : (packWord f7 rs2 rs1 f3 rd opc).toNat =
    f7.toNat * 2 ^ 25 + rs2.toNat * 2 ^ 20 + rs1.toNat * 2 ^ 15 + f3.toNat * 2 ^ 12 + rd.toNat * 2 ^ 7 + opc.toNat := by
  simp only [packWord, append_toNat]
  ring

/-- A field of a packed word, by the quotient and remainder that select its bits. -/
theorem extract_packWord {n : Nat} (k : Nat) (x : BitVec n)
    (h : (packWord f7 rs2 rs1 f3 rd opc).toNat / 2 ^ k % 2 ^ n = x.toNat) :
    (packWord f7 rs2 rs1 f3 rd opc).extractLsb' k n = x := by
  apply BitVec.eq_of_toNat_eq
  rw [BitVec.extractLsb'_toNat, Nat.shiftRight_eq_div_pow, h]

@[simp] theorem rvOpcode_packWord : rvOpcode (packWord f7 rs2 rs1 f3 rd opc) = opc :=
  extract_packWord _ _ _ _ _ _ 0 opc (by rw [packWord_toNat]; have := opc.isLt; omega)

@[simp] theorem rvRd_packWord : rvRd (packWord f7 rs2 rs1 f3 rd opc) = rd :=
  extract_packWord _ _ _ _ _ _ 7 rd (by rw [packWord_toNat]; have := opc.isLt; have := rd.isLt; omega)

@[simp] theorem rvFunct3_packWord : rvFunct3 (packWord f7 rs2 rs1 f3 rd opc) = f3 :=
  extract_packWord _ _ _ _ _ _ 12 f3 (by rw [packWord_toNat]; have := opc.isLt; have := rd.isLt; have := f3.isLt; omega)

@[simp] theorem rvRs1_packWord : rvRs1 (packWord f7 rs2 rs1 f3 rd opc) = rs1 :=
  extract_packWord _ _ _ _ _ _ 15 rs1 (by
    rw [packWord_toNat]; have := opc.isLt; have := rd.isLt; have := f3.isLt; have := rs1.isLt; omega)

@[simp] theorem rvRs2_packWord : rvRs2 (packWord f7 rs2 rs1 f3 rd opc) = rs2 :=
  extract_packWord _ _ _ _ _ _ 20 rs2 (by
    rw [packWord_toNat]; have := opc.isLt; have := rd.isLt; have := f3.isLt; have := rs1.isLt; have := rs2.isLt; omega)

@[simp] theorem rvFunct7_packWord : rvFunct7 (packWord f7 rs2 rs1 f3 rd opc) = f7 :=
  extract_packWord _ _ _ _ _ _ 25 f7 (by
    rw [packWord_toNat]
    have := opc.isLt; have := rd.isLt; have := f3.isLt; have := rs1.isLt; have := rs2.isLt; have := f7.isLt; omega)

end fields

/-- A word is packed from its fields. -/
theorem packWord_fields (w : Word) : packWord (rvFunct7 w) (rvRs2 w) (rvRs1 w) (rvFunct3 w) (rvRd w) (rvOpcode w) = w := by
  apply BitVec.eq_of_toNat_eq
  have := w.isLt
  simp only [packWord_toNat, rvOpcode, rvRd, rvFunct3, rvRs1, rvRs2, rvFunct7, BitVec.extractLsb'_toNat, Nat.shiftRight_eq_div_pow]
  omega

/-! ### Immediates -/

theorem extract_high {a b : Nat} (x : BitVec a) (y : BitVec b) : (x ++ y).extractLsb' b a = x := by
  apply BitVec.eq_of_toNat_eq
  rw [BitVec.extractLsb'_toNat, Nat.shiftRight_eq_div_pow, append_toNat, Nat.mul_comm, Nat.mul_add_div (by positivity),
    Nat.div_eq_of_lt y.isLt, Nat.add_zero, Nat.mod_eq_of_lt x.isLt]

theorem extract_low {a b : Nat} (x : BitVec a) (y : BitVec b) : (x ++ y).extractLsb' 0 b = y := by
  apply BitVec.eq_of_toNat_eq
  rw [BitVec.extractLsb'_toNat, Nat.shiftRight_eq_div_pow, append_toNat, pow_zero, Nat.div_one, Nat.mul_comm, Nat.mul_add_mod,
    Nat.mod_eq_of_lt y.isLt]

theorem split_7 (x : BitVec 7) : x.extractLsb' 6 1 ++ x.extractLsb' 0 6 = x := by revert x; decide
theorem split_5 (x : BitVec 5) : x.extractLsb' 1 4 ++ x.extractLsb' 0 1 = x := by revert x; decide
theorem split_12 (x : BitVec 12) : x.extractLsb' 5 7 ++ x.extractLsb' 0 5 = x := by
  apply BitVec.eq_of_toNat_eq
  have := x.isLt
  simp only [append_toNat, BitVec.extractLsb'_toNat, Nat.shiftRight_eq_div_pow]
  omega

/-- Four fields of 1, 1, 6 and 4 bits, as the B-type immediate has them. -/
theorem fields_B (a b : BitVec 1) (c : BitVec 6) (d : BitVec 4) :
    (a ++ b ++ c ++ d).extractLsb' 11 1 = a ∧ (a ++ b ++ c ++ d).extractLsb' 10 1 = b ∧
      (a ++ b ++ c ++ d).extractLsb' 4 6 = c ∧ (a ++ b ++ c ++ d).extractLsb' 0 4 = d := by
  have := a.isLt; have := b.isLt; have := c.isLt; have := d.isLt
  refine ⟨?_, ?_, ?_, ?_⟩ <;> apply BitVec.eq_of_toNat_eq <;>
    simp only [append_toNat, BitVec.extractLsb'_toNat, Nat.shiftRight_eq_div_pow] <;> omega

theorem split_B (x : BitVec 12) : x.extractLsb' 11 1 ++ x.extractLsb' 10 1 ++ x.extractLsb' 4 6 ++ x.extractLsb' 0 4 = x := by
  apply BitVec.eq_of_toNat_eq
  have := x.isLt
  simp only [append_toNat, BitVec.extractLsb'_toNat, Nat.shiftRight_eq_div_pow]
  omega

/-- Six fields of 1, 5, 3, 1, 6 and 4 bits, as the J-type immediate has them. -/
theorem fields_J (a b : BitVec 1) (c : BitVec 6) (d : BitVec 4) (r : BitVec 5) (f : BitVec 3) :
    (a ++ r ++ f ++ b ++ c ++ d).extractLsb' 19 1 = a ∧ (a ++ r ++ f ++ b ++ c ++ d).extractLsb' 14 5 = r ∧
      (a ++ r ++ f ++ b ++ c ++ d).extractLsb' 11 3 = f ∧ (a ++ r ++ f ++ b ++ c ++ d).extractLsb' 10 1 = b ∧
      (a ++ r ++ f ++ b ++ c ++ d).extractLsb' 4 6 = c ∧ (a ++ r ++ f ++ b ++ c ++ d).extractLsb' 0 4 = d := by
  have := a.isLt; have := b.isLt; have := c.isLt; have := d.isLt; have := r.isLt; have := f.isLt
  refine ⟨?_, ?_, ?_, ?_, ?_, ?_⟩ <;> apply BitVec.eq_of_toNat_eq <;>
    simp only [append_toNat, BitVec.extractLsb'_toNat, Nat.shiftRight_eq_div_pow] <;> omega

theorem split_J (x : BitVec 20) : x.extractLsb' 19 1 ++ x.extractLsb' 14 5 ++ x.extractLsb' 11 3 ++ x.extractLsb' 10 1 ++
    x.extractLsb' 4 6 ++ x.extractLsb' 0 4 = x := by
  apply BitVec.eq_of_toNat_eq
  have := x.isLt
  simp only [append_toNat, BitVec.extractLsb'_toNat, Nat.shiftRight_eq_div_pow]
  omega

/-- Four fields of 7, 5, 5 and 3 bits, as the U-type immediate has them. -/
theorem fields_U (a : BitVec 7) (b c : BitVec 5) (d : BitVec 3) :
    (a ++ b ++ c ++ d).extractLsb' 13 7 = a ∧ (a ++ b ++ c ++ d).extractLsb' 8 5 = b ∧
      (a ++ b ++ c ++ d).extractLsb' 3 5 = c ∧ (a ++ b ++ c ++ d).extractLsb' 0 3 = d := by
  have := a.isLt; have := b.isLt; have := c.isLt; have := d.isLt
  refine ⟨?_, ?_, ?_, ?_⟩ <;> apply BitVec.eq_of_toNat_eq <;>
    simp only [append_toNat, BitVec.extractLsb'_toNat, Nat.shiftRight_eq_div_pow] <;> omega

theorem split_U (x : BitVec 20) : x.extractLsb' 13 7 ++ x.extractLsb' 8 5 ++ x.extractLsb' 3 5 ++ x.extractLsb' 0 3 = x := by
  apply BitVec.eq_of_toNat_eq
  have := x.isLt
  simp only [append_toNat, BitVec.extractLsb'_toNat, Nat.shiftRight_eq_div_pow]
  omega

/-! The immediate read from a packed word is the one packed. -/

@[simp] theorem immI_packI (imm : BitVec 12) (rs1 : BitVec 5) (f3 : BitVec 3) (rd : BitVec 5) (opc : BitVec 7) :
    immI (packI imm rs1 f3 rd opc) = imm := by
  rw [immI, packI, rvFunct7_packWord, rvRs2_packWord, split_12]

@[simp] theorem immS_packS (imm : BitVec 12) (rs2 rs1 : BitVec 5) (f3 : BitVec 3) (opc : BitVec 7) :
    immS (packS imm rs2 rs1 f3 opc) = imm := by
  rw [immS, packS, rvFunct7_packWord, rvRd_packWord, split_12]

@[simp] theorem immB_packB (imm : BitVec 12) (rs2 rs1 : BitVec 5) (f3 : BitVec 3) (opc : BitVec 7) :
    immB (packB imm rs2 rs1 f3 opc) = imm := by
  rw [immB, packB, rvFunct7_packWord, rvRd_packWord, extract_high, extract_low, extract_high, extract_low, split_B]

@[simp] theorem immU_packU (imm : BitVec 20) (rd : BitVec 5) (opc : BitVec 7) : immU (packU imm rd opc) = imm := by
  rw [immU, packU, rvFunct7_packWord, rvRs2_packWord, rvRs1_packWord, rvFunct3_packWord, split_U]

@[simp] theorem immJ_packJ (imm : BitVec 20) (rd : BitVec 5) (opc : BitVec 7) : immJ (packJ imm rd opc) = imm := by
  rw [immJ, packJ, rvFunct7_packWord, rvRs1_packWord, rvFunct3_packWord, rvRs2_packWord, extract_high, extract_low, extract_high,
    extract_low, split_J]

/-! A word packed from the immediate of a word has the fields of that word. -/

theorem packI_immI (w : Word) (rs1 : BitVec 5) (f3 : BitVec 3) (rd : BitVec 5) (opc : BitVec 7) :
    packI (immI w) rs1 f3 rd opc = packWord (rvFunct7 w) (rvRs2 w) rs1 f3 rd opc := by
  rw [packI, immI, extract_high, extract_low]

theorem packS_immS (w : Word) (rs2 rs1 : BitVec 5) (f3 : BitVec 3) (opc : BitVec 7) :
    packS (immS w) rs2 rs1 f3 opc = packWord (rvFunct7 w) rs2 rs1 f3 (rvRd w) opc := by
  rw [packS, immS, extract_high, extract_low]

theorem packB_immB (w : Word) (rs2 rs1 : BitVec 5) (f3 : BitVec 3) (opc : BitVec 7) :
    packB (immB w) rs2 rs1 f3 opc = packWord (rvFunct7 w) rs2 rs1 f3 (rvRd w) opc := by
  obtain ⟨h1, h2, h3, h4⟩ := fields_B ((rvFunct7 w).extractLsb' 6 1) ((rvRd w).extractLsb' 0 1) ((rvFunct7 w).extractLsb' 0 6)
    ((rvRd w).extractLsb' 1 4)
  rw [packB, immB, h1, h2, h3, h4, split_7, split_5]

theorem packU_immU (w : Word) (rd : BitVec 5) (opc : BitVec 7) :
    packU (immU w) rd opc = packWord (rvFunct7 w) (rvRs2 w) (rvRs1 w) (rvFunct3 w) rd opc := by
  obtain ⟨h1, h2, h3, h4⟩ := fields_U (rvFunct7 w) (rvRs2 w) (rvRs1 w) (rvFunct3 w)
  rw [packU, immU, h1, h2, h3, h4]

theorem packJ_immJ (w : Word) (rd : BitVec 5) (opc : BitVec 7) :
    packJ (immJ w) rd opc = packWord (rvFunct7 w) (rvRs2 w) (rvRs1 w) (rvFunct3 w) rd opc := by
  obtain ⟨h1, h2, h3, h4, h5, h6⟩ := fields_J ((rvFunct7 w).extractLsb' 6 1) ((rvRs2 w).extractLsb' 0 1)
    ((rvFunct7 w).extractLsb' 0 6) ((rvRs2 w).extractLsb' 1 4) (rvRs1 w) (rvFunct3 w)
  rw [packJ, immJ, h1, h2, h3, h4, h5, h6, split_7, split_5]

/-! ### The fields of words packed with an immediate -/

section immediates

variable (imm : BitVec 12) (imm20 : BitVec 20) (rs2 rs1 : BitVec 5) (f3 : BitVec 3) (rd : BitVec 5) (opc : BitVec 7)

@[simp] theorem rvOpcode_packI : rvOpcode (packI imm rs1 f3 rd opc) = opc := rvOpcode_packWord ..
@[simp] theorem rvFunct3_packI : rvFunct3 (packI imm rs1 f3 rd opc) = f3 := rvFunct3_packWord ..
@[simp] theorem rvRd_packI : rvRd (packI imm rs1 f3 rd opc) = rd := rvRd_packWord ..
@[simp] theorem rvRs1_packI : rvRs1 (packI imm rs1 f3 rd opc) = rs1 := rvRs1_packWord ..
@[simp] theorem rvOpcode_packS : rvOpcode (packS imm rs2 rs1 f3 opc) = opc := rvOpcode_packWord ..
@[simp] theorem rvFunct3_packS : rvFunct3 (packS imm rs2 rs1 f3 opc) = f3 := rvFunct3_packWord ..
@[simp] theorem rvRs1_packS : rvRs1 (packS imm rs2 rs1 f3 opc) = rs1 := rvRs1_packWord ..
@[simp] theorem rvRs2_packS : rvRs2 (packS imm rs2 rs1 f3 opc) = rs2 := rvRs2_packWord ..
@[simp] theorem rvOpcode_packB : rvOpcode (packB imm rs2 rs1 f3 opc) = opc := rvOpcode_packWord ..
@[simp] theorem rvFunct3_packB : rvFunct3 (packB imm rs2 rs1 f3 opc) = f3 := rvFunct3_packWord ..
@[simp] theorem rvRs1_packB : rvRs1 (packB imm rs2 rs1 f3 opc) = rs1 := rvRs1_packWord ..
@[simp] theorem rvRs2_packB : rvRs2 (packB imm rs2 rs1 f3 opc) = rs2 := rvRs2_packWord ..
@[simp] theorem rvOpcode_packU : rvOpcode (packU imm20 rd opc) = opc := rvOpcode_packWord ..
@[simp] theorem rvRd_packU : rvRd (packU imm20 rd opc) = rd := rvRd_packWord ..
@[simp] theorem rvOpcode_packJ : rvOpcode (packJ imm20 rd opc) = opc := rvOpcode_packWord ..
@[simp] theorem rvRd_packJ : rvRd (packJ imm20 rd opc) = rd := rvRd_packWord ..

end immediates

/-! ### The decoder, opcode by opcode -/

section opcodes

variable (imm : BitVec 12) (imm20 : BitVec 20) (f7 : BitVec 7) (rs2 rs1 : BitVec 5) (f3 : BitVec 3) (rd : BitVec 5)

theorem decodeWord_of {w : Word} {n : Nat} (h : (rvOpcode w).toNat = n) : decodeWord w =
    (fun k : Nat => match k with
    | 0x33 => decodeOp (rvFunct7 w).toNat (rvFunct3 w).toNat (rvRd w) (rvRs1 w) (rvRs2 w)
    | 0x13 => decodeOpImm (rvFunct7 w).toNat (rvFunct3 w).toNat (rvRd w) (rvRs1 w) (rvRs2 w) (immI w)
    | 0x03 => decodeLoad (rvFunct3 w).toNat (rvRd w) (rvRs1 w) (immI w)
    | 0x23 => decodeStore (rvFunct3 w).toNat (rvRs1 w) (rvRs2 w) (immS w)
    | 0x63 => decodeBranch (rvFunct3 w).toNat (rvRs1 w) (rvRs2 w) (immB w)
    | 0x6F => some (.rvJal (rvRd w) (immJ w))
    | 0x67 => if rvFunct3 w = 0 then some (.rvJalr (rvRd w) (rvRs1 w) (immI w)) else none
    | 0x37 => some (.rvLui (rvRd w) (immU w))
    | 0x17 => some (.rvAuipc (rvRd w) (immU w))
    | 0x0B => decodeCustom0 w
    | 0x2B => decodeCustom1 w
    | _ => none) n := by subst h; rfl

theorem decodeWord_op : decodeWord (packWord f7 rs2 rs1 f3 rd 0x33) = decodeOp f7.toNat f3.toNat rd rs1 rs2 := by
  rw [decodeWord_of (n := 0x33) (by rw [rvOpcode_packWord]; rfl), rvFunct7_packWord, rvFunct3_packWord, rvRd_packWord,
    rvRs1_packWord, rvRs2_packWord]; rfl

theorem decodeWord_opImm : decodeWord (packI imm rs1 f3 rd 0x13) =
    decodeOpImm (imm.extractLsb' 5 7).toNat f3.toNat rd rs1 (imm.extractLsb' 0 5) imm := by
  rw [decodeWord_of (n := 0x13) (by rw [rvOpcode_packI]; rfl), immI_packI, packI, rvFunct7_packWord, rvFunct3_packWord,
    rvRd_packWord, rvRs1_packWord, rvRs2_packWord]; rfl

theorem decodeWord_shift : decodeWord (packWord f7 rs2 rs1 f3 rd 0x13) =
    decodeOpImm f7.toNat f3.toNat rd rs1 rs2 (f7 ++ rs2) := by
  rw [decodeWord_of (n := 0x13) (by rw [rvOpcode_packWord]; rfl), immI, rvFunct7_packWord, rvFunct3_packWord, rvRd_packWord,
    rvRs1_packWord, rvRs2_packWord]; rfl

theorem decodeWord_load : decodeWord (packI imm rs1 f3 rd 0x03) = decodeLoad f3.toNat rd rs1 imm := by
  rw [decodeWord_of (n := 0x03) (by rw [rvOpcode_packI]; rfl), immI_packI, rvFunct3_packI, rvRd_packI, rvRs1_packI]; rfl

theorem decodeWord_store : decodeWord (packS imm rs2 rs1 f3 0x23) = decodeStore f3.toNat rs1 rs2 imm := by
  rw [decodeWord_of (n := 0x23) (by rw [rvOpcode_packS]; rfl), immS_packS, rvFunct3_packS, rvRs1_packS, rvRs2_packS]; rfl

theorem decodeWord_branch : decodeWord (packB imm rs2 rs1 f3 0x63) = decodeBranch f3.toNat rs1 rs2 imm := by
  rw [decodeWord_of (n := 0x63) (by rw [rvOpcode_packB]; rfl), immB_packB, rvFunct3_packB, rvRs1_packB, rvRs2_packB]; rfl

theorem decodeWord_jal : decodeWord (packJ imm20 rd 0x6F) = some (.rvJal rd imm20) := by
  rw [decodeWord_of (n := 0x6F) (by rw [rvOpcode_packJ]; rfl), rvRd_packJ, immJ_packJ]; rfl

theorem decodeWord_jalr : decodeWord (packI imm rs1 0 rd 0x67) = some (.rvJalr rd rs1 imm) := by
  rw [decodeWord_of (n := 0x67) (by rw [rvOpcode_packI]; rfl), rvFunct3_packI, immI_packI, rvRd_packI, rvRs1_packI]; rfl

theorem decodeWord_lui : decodeWord (packU imm20 rd 0x37) = some (.rvLui rd imm20) := by
  rw [decodeWord_of (n := 0x37) (by rw [rvOpcode_packU]; rfl), rvRd_packU, immU_packU]; rfl

theorem decodeWord_auipc : decodeWord (packU imm20 rd 0x17) = some (.rvAuipc rd imm20) := by
  rw [decodeWord_of (n := 0x17) (by rw [rvOpcode_packU]; rfl), rvRd_packU, immU_packU]; rfl

theorem decodeWord_custom0 : decodeWord (packWord f7 rs2 rs1 f3 rd 0x0B) =
    match f3.toNat with
    | 0 => some (.rvTerminate (f7 ++ rs2))
    | 1 => some (.rvHintstorew rd (f7 ++ rs2))
    | 2 => some (.rvReveal rs1 rd (f7 ++ rs2))
    | 3 => if f7 ++ rs2 = 0 then some .rvHintinput else none
    | 4 => if f7 = 0 then some (.rvKeccak256 rd rs1 rs2) else none
    | 5 => decodeInt256 f7.toNat rd rs1 rs2
    | _ => none := by
  rw [decodeWord_of (n := 0x0B) (by rw [rvOpcode_packWord]; rfl)]
  show decodeCustom0 _ = _
  simp only [decodeCustom0, immI, rvFunct7_packWord, rvFunct3_packWord, rvRd_packWord, rvRs1_packWord, rvRs2_packWord] <;> rfl

theorem decodeWord_custom0_imm : decodeWord (packI imm rs1 f3 rd 0x0B) =
    match f3.toNat with
    | 0 => some (.rvTerminate imm)
    | 1 => some (.rvHintstorew rd imm)
    | 2 => some (.rvReveal rs1 rd imm)
    | 3 => if imm = 0 then some .rvHintinput else none
    | 4 => if imm.extractLsb' 5 7 = 0 then some (.rvKeccak256 rd rs1 (imm.extractLsb' 0 5)) else none
    | 5 => decodeInt256 (imm.extractLsb' 5 7).toNat rd rs1 (imm.extractLsb' 0 5)
    | _ => none := by
  rw [packI, decodeWord_custom0, split_12]

theorem decodeWord_custom1 : decodeWord (packWord f7 rs2 rs1 f3 rd 0x2B) =
    match f3.toNat with
    | 0 => decodeModular (f7.extractLsb' 0 3).toNat (f7.extractLsb' 3 4) rd rs1 rs2
    | 1 => decodeCurve (f7.extractLsb' 0 3).toNat (f7.extractLsb' 3 4) rd rs1 rs2
    | _ => none := by
  rw [decodeWord_of (n := 0x2B) (by rw [rvOpcode_packWord]; rfl)]
  show decodeCustom1 _ = _
  simp only [decodeCustom1, rvFunct7_packWord, rvFunct3_packWord, rvRd_packWord, rvRs1_packWord, rvRs2_packWord] <;> rfl

theorem decodeWord_modular (idx : BitVec 4) (k : BitVec 3) : decodeWord (packWord (idx ++ k) rs2 rs1 0 rd 0x2B) =
    decodeModular k.toNat idx rd rs1 rs2 := by
  rw [decodeWord_custom1, extract_low, extract_high]; rfl

theorem decodeWord_curve (idx : BitVec 4) (k : BitVec 3) : decodeWord (packWord (idx ++ k) rs2 rs1 1 rd 0x2B) =
    decodeCurve k.toNat idx rd rs1 rs2 := by
  rw [decodeWord_custom1, extract_low, extract_high]; rfl

end opcodes

/-! ### Opcodes -/

/-- In a map without repeated opcodes, an opcode of a mnemonic names that mnemonic. -/
theorem opOf_opcodeOf {l : List (Nat × Op)} (h : (l.map (·.1)).Nodup) {op : Op} {k : Nat} (hk : opcodeOf l op = some k) :
    opOf l k = some op ∧ (k, op) ∈ l := by
  induction l with
  | nil => simp [opcodeOf] at hk
  | cons x l ih =>
    obtain ⟨j, m⟩ := x
    rw [List.map_cons, List.nodup_cons] at h
    simp only [opcodeOf] at hk
    by_cases hm : m = op
    · subst hm; simp at hk; subst hk; simp [opOf]
    · rw [if_neg hm] at hk
      obtain ⟨h1, h2⟩ := ih h.2 hk
      have : j ≠ k := by rintro rfl; exact h.1 (List.mem_map.2 ⟨_, h2, rfl⟩)
      simp [opOf, this, h1, h2]

/-- A mnemonic of the map has an opcode. -/
theorem opcodeOf_of_mem {l : List (Nat × Op)} {op : Op} (h : op ∈ l.map (·.2)) : ∃ k, opcodeOf l op = some k := by
  induction l with
  | nil => simp at h
  | cons x l ih =>
    obtain ⟨j, m⟩ := x
    simp only [opcodeOf]
    by_cases hm : m = op
    · exact ⟨j, by simp [hm]⟩
    · rw [if_neg hm]
      exact ih (by simpa [Ne.symm hm] using h)

/-- An opcode names a mnemonic that the map pairs with it. -/
theorem mem_of_opOf {l : List (Nat × Op)} {op : Op} {k : Nat} (h : opOf l k = some op) : (k, op) ∈ l := by
  induction l with
  | nil => simp [opOf] at h
  | cons x l ih =>
    obtain ⟨j, m⟩ := x
    simp only [opOf] at h
    split_ifs at h with hj
    · subst hj; cases h; simp
    · exact List.mem_cons_of_mem _ (ih h)

end Sys2Proof
end

