-- ==== Sys2Proof/Laws/Fetch.lean ====
section
/-!
SUPPORT. What a fetch and a step can do: the inversion of a completed step, and the refusal of a program.
-/

namespace Sys2Proof.Machine

variable {s t : State} {e : RomEntry} {i : Instr} {why : Refusal}

/-- A program is not refused exactly when none of its words is. -/
theorem rejection_eq_none : s.rejection = none ↔ ∀ x ∈ s.prog, entryRejection s.cfg x.2 = none :=
  List.findSome?_eq_none_iff

/-- A program with a refused word is refused. -/
theorem rejection_of_mem {x : Nat × RomEntry} (hx : x ∈ s.prog) (h : entryRejection s.cfg x.2 = some why) :
    ∃ why', s.rejection = some why' := by
  cases hr : s.rejection with
  | some why' => exact ⟨why', rfl⟩
  | none => rw [rejection_eq_none.mp hr x hx] at h; cases h

/-- An instruction is fetched exactly in a running state of a program that is not refused, from the entry at `pc`. -/
theorem fetch_next : s.fetch = .next i ↔ s.status = .running ∧ s.rejection = none ∧ s.pc < 2 ^ 30 ∧
    ∃ e, s.prog.get? s.pc = some e ∧ decode s.cfg e = some i := by
  unfold State.fetch decodeEntry
  by_cases hs : s.status = .running
  case neg => simp [hs]
  cases hr : s.rejection with
  | some why => simp [hs]
  | none =>
    by_cases hp : s.pc < 2 ^ 30
    case neg => simp [hs, hp, -Nat.reducePow]
    cases he : s.prog.get? s.pc with
    | none => simp [hs, hp, -Nat.reducePow]
    | some e =>
      cases hd : decode s.cfg e with
      | some j => simp [hs, hp, hd, -Nat.reducePow]
      | none => cases e <;> simp [hs, hp, hd, -Nat.reducePow]

/-- A completed step ran the instruction that the entry at `pc` decodes to. -/
theorem step_next : step s = .next t ↔ s.status = .running ∧ s.rejection = none ∧ s.pc < 2 ^ 30 ∧
    ∃ e i, s.prog.get? s.pc = some e ∧ decode s.cfg e = some i ∧ exec i s = .next t := by
  unfold step
  cases hf : s.fetch with
  | next i =>
    obtain ⟨h1, h2, h3, e, h4, h5⟩ := fetch_next.mp hf
    simp [h1, h2, h3, h4, h5, -Nat.reducePow]
  | fault c =>
    simp only [reduceCtorEq, false_iff]
    rintro ⟨h1, h2, h3, e, i, h4, h5, -⟩
    rw [fetch_next.mpr ⟨h1, h2, h3, e, h4, h5⟩] at hf; cases hf
  | refused c =>
    simp only [reduceCtorEq, false_iff]
    rintro ⟨h1, h2, h3, e, i, h4, h5, -⟩
    rw [fetch_next.mpr ⟨h1, h2, h3, e, h4, h5⟩] at hf; cases hf

/-- A running state of a refused program takes no step. -/
theorem step_of_rejected (hs : s.status = .running) (h : s.rejection = some why) : step s = .refused why := by
  simp [step, State.fetch, hs, h]

end Sys2Proof.Machine
end

