-- ==== Sys2Proof/Laws/Numbers.lean ====
section
/-!
SUPPORT. The inverse modulo a number, and the free representatives: what each guarantees, whatever the free choice is.
-/

namespace Sys2Proof.Machine

/-- The loop keeps both remainders as multiples of `y` modulo `n` and ends at their greatest common divisor. -/
theorem invLoop_spec {n : Nat} {y : Int} {fuel r0 r1 : Nat} {s0 s1 : Int} (hf : r1 < fuel)
    (h0 : s0 * y ≡ r0 [ZMOD n]) (h1 : s1 * y ≡ r1 [ZMOD n]) :
    invLoop fuel r0 r1 s0 s1 * y ≡ Nat.gcd r0 r1 [ZMOD n] := by
  induction fuel generalizing r0 r1 s0 s1 with
  | zero => omega
  | succ k ih =>
    rw [invLoop]
    split_ifs with h
    · subst h; simpa using h0
    · have hlt : r0 % r1 < k := lt_of_lt_of_le (Nat.mod_lt _ (Nat.pos_of_ne_zero h)) (by omega)
      have hstep : (s0 - (r0 / r1 : Nat) * s1) * y ≡ (r0 % r1 : Nat) [ZMOD n] := by
        have e : ((r0 % r1 : Nat) : Int) = r0 - (r0 / r1 : Nat) * r1 := by
          have := Nat.div_add_mod r0 r1
          have : (r1 : Int) * (r0 / r1 : Nat) + (r0 % r1 : Nat) = r0 := by exact_mod_cast this
          linarith
        rw [e, sub_mul, mul_assoc]
        exact h0.sub (h1.mul_left _)
      have := ih hlt h1 hstep
      rwa [Nat.gcd_comm r0 r1, Nat.gcd_rec r1 r0, Nat.gcd_comm]

/-- `modInv y n` is the inverse of `y` modulo `n`, below `n`. -/
theorem modInv_spec {y n : Nat} (hn : 0 < n) (h : Nat.gcd y n = 1) :
    modInv y n < n ∧ (modInv y n : Int) * y ≡ 1 [ZMOD n] := by
  have hn' : (0 : Int) < n := by exact_mod_cast hn
  have hy : (1 : Int) * y ≡ (y % n : Nat) [ZMOD n] := by
    rw [one_mul]; push_cast; exact (Int.mod_modEq _ _).symm
  have hz : (0 : Int) * y ≡ (n : Nat) [ZMOD n] := by rw [zero_mul]; exact (Int.modEq_zero_iff_dvd.2 dvd_rfl).symm
  have key := invLoop_spec (fuel := n + 1) (Nat.lt_succ_self n) hy hz
  have hg : Nat.gcd (y % n) n = 1 := by rw [← Nat.gcd_rec, Nat.gcd_comm]; exact h
  rw [hg] at key
  have hnn := Int.emod_nonneg (invLoop (n + 1) (y % n) n 1 0) hn'.ne'
  have e : (modInv y n : Int) = invLoop (n + 1) (y % n) n 1 0 % n := Int.toNat_of_nonneg hnn
  refine ⟨?_, ?_⟩
  · have := Int.emod_lt_of_pos (invLoop (n + 1) (y % n) n 1 0) hn'
    omega
  · rw [e]; exact ((Int.mod_modEq _ _).mul_right _).trans (by simpa using key)

/-- A free representative has the residue of `v`. -/
theorem representative_congr {n : Nat} (hn : 0 < n) (limbs k : Nat) (v : Int) : (representative n limbs k v : Int) ≡ v [ZMOD n] := by
  have hn' : (0 : Int) < n := by exact_mod_cast hn
  have e : (((v % n).toNat : Nat) : Int) = v % n := Int.toNat_of_nonneg (Int.emod_nonneg _ hn'.ne')
  unfold representative
  simp only []
  push_cast
  rw [e]
  calc v % n + n * _ ≡ v % n + 0 [ZMOD n] := (Int.modEq_zero_iff_dvd.2 (dvd_mul_right _ _)).add_left _
    _ ≡ v [ZMOD n] := by rw [add_zero]; exact Int.mod_modEq _ _

/-- A free representative fits in the limbs. -/
theorem representative_lt {n limbs : Nat} (hn : 0 < n) (hl : n ≤ 256 ^ limbs) (k : Nat) (v : Int) :
    representative n limbs k v < 256 ^ limbs := by
  have hn' : (0 : Int) < n := by exact_mod_cast hn
  have h1 : (v % n).toNat < n := by
    have := Int.emod_lt_of_pos v hn'
    have := Int.emod_nonneg v hn'.ne'
    omega
  unfold representative representatives
  simp only []
  generalize (v % n).toNat = r at *
  have h2 : Config.freeChoice k % ((256 ^ limbs - 1 - r) / n + 1) ≤ (256 ^ limbs - 1 - r) / n :=
    Nat.lt_succ_iff.1 (Nat.mod_lt _ (Nat.succ_pos _))
  have h3 : n * (Config.freeChoice k % ((256 ^ limbs - 1 - r) / n + 1)) ≤ 256 ^ limbs - 1 - r :=
    (Nat.mul_le_mul_left _ h2).trans (Nat.mul_div_le _ _)
  omega

/-- Every number in range with the residue of `v` is the representative for some value of the free choice. -/
theorem representative_covers {n limbs : Nat} (hn : 0 < n) {v : Int} {u : Nat} (hu : u < 256 ^ limbs) (h : (u : Int) ≡ v [ZMOD n]) :
    ∃ c, u = (v % n).toNat + n * (c % representatives n limbs (v % n).toNat) := by
  have hr : (v % n).toNat = u % n := by
    have : (u : Int) % n = v % n := h
    rw [← this]; norm_cast
  rw [hr]
  refine ⟨u / n, ?_⟩
  have h1 : u / n < representatives n limbs (u % n) := by
    unfold representatives
    rw [Nat.lt_succ_iff, Nat.le_div_iff_mul_le hn]
    have := Nat.div_add_mod' u n
    omega
  rw [Nat.mod_eq_of_lt h1]
  exact (Nat.mod_add_div u n).symm

end Sys2Proof.Machine
end

