-- ==== Sys2Proof/Laws/PerInstr.lean ====
section
/-!
SUPPORT. Made per instruction: the word the encoder writes decodes to the instruction it was written for.
-/

namespace Sys2Proof.Laws.RoundTrip

/-- The word of the instruction, where it has one, decodes to the instruction (R141 to R153). -/
def Statement (i : Instr) : Prop := ∀ w, encodeWord i = some w → decodeWord w = some i

/-- An axVM instruction has no word. -/
theorem of_none {i : Instr} (h : encodeWord i = none) : Statement i := fun w hw => by rw [h] at hw; cases hw

/-- An instruction whose word decodes to it. -/
theorem of_some {i : Instr} {v : Word} (h : encodeWord i = some v) (hd : decodeWord v = some i) : Statement i :=
  fun w hw => by rw [h] at hw; cases hw; exact hd

theorem terminate (o : Operands) : Statement (.terminate o) := of_none rfl
theorem phantom (o : Operands) : Statement (.phantom o) := of_none rfl
theorem phantomNop (o : PhantomOperands) : Statement (.phantomNop o) := of_none rfl
theorem phantomDebugPanic (o : PhantomOperands) : Statement (.phantomDebugPanic o) := of_none rfl
theorem phantomPrintF (o : PhantomOperands) : Statement (.phantomPrintF o) := of_none rfl
theorem phantomHintInput (o : PhantomOperands) : Statement (.phantomHintInput o) := of_none rfl
theorem phantomHintBits (o : PhantomOperands) : Statement (.phantomHintBits o) := of_none rfl
theorem phantomCtStart (o : PhantomOperands) : Statement (.phantomCtStart o) := of_none rfl
theorem phantomCtEnd (o : PhantomOperands) : Statement (.phantomCtEnd o) := of_none rfl
theorem phantomHintFinalExpBn254 (o : PhantomOperands) : Statement (.phantomHintFinalExpBn254 o) := of_none rfl
theorem phantomHintFinalExpBls12381 (o : PhantomOperands) : Statement (.phantomHintFinalExpBls12381 o) := of_none rfl
theorem addRv32 (o : Operands) : Statement (.addRv32 o) := of_none rfl
theorem subRv32 (o : Operands) : Statement (.subRv32 o) := of_none rfl
theorem xorRv32 (o : Operands) : Statement (.xorRv32 o) := of_none rfl
theorem orRv32 (o : Operands) : Statement (.orRv32 o) := of_none rfl
theorem andRv32 (o : Operands) : Statement (.andRv32 o) := of_none rfl
theorem sllRv32 (o : Operands) : Statement (.sllRv32 o) := of_none rfl
theorem srlRv32 (o : Operands) : Statement (.srlRv32 o) := of_none rfl
theorem sraRv32 (o : Operands) : Statement (.sraRv32 o) := of_none rfl
theorem sltRv32 (o : Operands) : Statement (.sltRv32 o) := of_none rfl
theorem sltuRv32 (o : Operands) : Statement (.sltuRv32 o) := of_none rfl
theorem loadbRv32 (o : Operands) : Statement (.loadbRv32 o) := of_none rfl
theorem loadhRv32 (o : Operands) : Statement (.loadhRv32 o) := of_none rfl
theorem loadwRv32 (o : Operands) : Statement (.loadwRv32 o) := of_none rfl
theorem loadbuRv32 (o : Operands) : Statement (.loadbuRv32 o) := of_none rfl
theorem loadhuRv32 (o : Operands) : Statement (.loadhuRv32 o) := of_none rfl
theorem storebRv32 (o : Operands) : Statement (.storebRv32 o) := of_none rfl
theorem storehRv32 (o : Operands) : Statement (.storehRv32 o) := of_none rfl
theorem storewRv32 (o : Operands) : Statement (.storewRv32 o) := of_none rfl
theorem beqRv32 (o : Operands) : Statement (.beqRv32 o) := of_none rfl
theorem bneRv32 (o : Operands) : Statement (.bneRv32 o) := of_none rfl
theorem bltRv32 (o : Operands) : Statement (.bltRv32 o) := of_none rfl
theorem bgeRv32 (o : Operands) : Statement (.bgeRv32 o) := of_none rfl
theorem bltuRv32 (o : Operands) : Statement (.bltuRv32 o) := of_none rfl
theorem bgeuRv32 (o : Operands) : Statement (.bgeuRv32 o) := of_none rfl
theorem jalRv32 (o : Operands) : Statement (.jalRv32 o) := of_none rfl
theorem jalrRv32 (o : Operands) : Statement (.jalrRv32 o) := of_none rfl
theorem luiRv32 (o : Operands) : Statement (.luiRv32 o) := of_none rfl
theorem auipcRv32 (o : Operands) : Statement (.auipcRv32 o) := of_none rfl
theorem mulRv32 (o : Operands) : Statement (.mulRv32 o) := of_none rfl
theorem mulhRv32 (o : Operands) : Statement (.mulhRv32 o) := of_none rfl
theorem mulhsuRv32 (o : Operands) : Statement (.mulhsuRv32 o) := of_none rfl
theorem mulhuRv32 (o : Operands) : Statement (.mulhuRv32 o) := of_none rfl
theorem divRv32 (o : Operands) : Statement (.divRv32 o) := of_none rfl
theorem divuRv32 (o : Operands) : Statement (.divuRv32 o) := of_none rfl
theorem remRv32 (o : Operands) : Statement (.remRv32 o) := of_none rfl
theorem remuRv32 (o : Operands) : Statement (.remuRv32 o) := of_none rfl
theorem hintstorewRv32 (o : Operands) : Statement (.hintstorewRv32 o) := of_none rfl
theorem revealRv32 (o : Operands) : Statement (.revealRv32 o) := of_none rfl
theorem keccak256Rv32 (o : Operands) : Statement (.keccak256Rv32 o) := of_none rfl
theorem add256Rv32 (o : Operands) : Statement (.add256Rv32 o) := of_none rfl
theorem sub256Rv32 (o : Operands) : Statement (.sub256Rv32 o) := of_none rfl
theorem xor256Rv32 (o : Operands) : Statement (.xor256Rv32 o) := of_none rfl
theorem or256Rv32 (o : Operands) : Statement (.or256Rv32 o) := of_none rfl
theorem and256Rv32 (o : Operands) : Statement (.and256Rv32 o) := of_none rfl
theorem sll256Rv32 (o : Operands) : Statement (.sll256Rv32 o) := of_none rfl
theorem srl256Rv32 (o : Operands) : Statement (.srl256Rv32 o) := of_none rfl
theorem sra256Rv32 (o : Operands) : Statement (.sra256Rv32 o) := of_none rfl
theorem slt256Rv32 (o : Operands) : Statement (.slt256Rv32 o) := of_none rfl
theorem sltu256Rv32 (o : Operands) : Statement (.sltu256Rv32 o) := of_none rfl
theorem beq256Rv32 (o : Operands) : Statement (.beq256Rv32 o) := of_none rfl
theorem bne256Rv32 (o : Operands) : Statement (.bne256Rv32 o) := of_none rfl
theorem blt256Rv32 (o : Operands) : Statement (.blt256Rv32 o) := of_none rfl
theorem bge256Rv32 (o : Operands) : Statement (.bge256Rv32 o) := of_none rfl
theorem bltu256Rv32 (o : Operands) : Statement (.bltu256Rv32 o) := of_none rfl
theorem bgeu256Rv32 (o : Operands) : Statement (.bgeu256Rv32 o) := of_none rfl
theorem mul256Rv32 (o : Operands) : Statement (.mul256Rv32 o) := of_none rfl
theorem addmodRv32 (n : Nat) (o : Operands) : Statement (.addmodRv32 n o) := of_none rfl
theorem submodRv32 (n : Nat) (o : Operands) : Statement (.submodRv32 n o) := of_none rfl
theorem mulmodRv32 (n : Nat) (o : Operands) : Statement (.mulmodRv32 n o) := of_none rfl
theorem divmodRv32 (n : Nat) (o : Operands) : Statement (.divmodRv32 n o) := of_none rfl
theorem iseqmodRv32 (n : Nat) (o : Operands) : Statement (.iseqmodRv32 n o) := of_none rfl
theorem swAddNe (n : Nat) (o : Operands) : Statement (.swAddNe n o) := of_none rfl
theorem swDouble (n : Nat) (o : Operands) : Statement (.swDouble n o) := of_none rfl
theorem load (n : Nat) (o : Operands) : Statement (.load n o) := of_none rfl
theorem store (n : Nat) (o : Operands) : Statement (.store n o) := of_none rfl
theorem load2 (o : Operands) : Statement (.load2 o) := of_none rfl
theorem store2 (o : Operands) : Statement (.store2 o) := of_none rfl
theorem shintw (o : Operands) : Statement (.shintw o) := of_none rfl
theorem jal (o : Operands) : Statement (.jal o) := of_none rfl
theorem beq (n : Nat) (o : Operands) : Statement (.beq n o) := of_none rfl
theorem bne (n : Nat) (o : Operands) : Statement (.bne n o) := of_none rfl
theorem publish (o : Operands) : Statement (.publish o) := of_none rfl
theorem castf (o : Operands) : Statement (.castf o) := of_none rfl
theorem addf (o : Operands) : Statement (.addf o) := of_none rfl
theorem subf (o : Operands) : Statement (.subf o) := of_none rfl
theorem mulf (o : Operands) : Statement (.mulf o) := of_none rfl
theorem divf (o : Operands) : Statement (.divf o) := of_none rfl
theorem fe4add (o : Operands) : Statement (.fe4add o) := of_none rfl
theorem fe4sub (o : Operands) : Statement (.fe4sub o) := of_none rfl
theorem bbe4mul (o : Operands) : Statement (.bbe4mul o) := of_none rfl
theorem bbe4div (o : Operands) : Statement (.bbe4div o) := of_none rfl
theorem compressPoseidon2 (o : Operands) : Statement (.compressPoseidon2 o) := of_none rfl
theorem permPoseidon2 (o : Operands) : Statement (.permPoseidon2 o) := of_none rfl
theorem rvAdd (rd : BitVec 5) (rs1 : BitVec 5) (rs2 : BitVec 5) : Statement (.rvAdd rd rs1 rs2) := of_some rfl (decodeWord_op ..)
theorem rvSub (rd : BitVec 5) (rs1 : BitVec 5) (rs2 : BitVec 5) : Statement (.rvSub rd rs1 rs2) := of_some rfl (decodeWord_op ..)
theorem rvXor (rd : BitVec 5) (rs1 : BitVec 5) (rs2 : BitVec 5) : Statement (.rvXor rd rs1 rs2) := of_some rfl (decodeWord_op ..)
theorem rvOr (rd : BitVec 5) (rs1 : BitVec 5) (rs2 : BitVec 5) : Statement (.rvOr rd rs1 rs2) := of_some rfl (decodeWord_op ..)
theorem rvAnd (rd : BitVec 5) (rs1 : BitVec 5) (rs2 : BitVec 5) : Statement (.rvAnd rd rs1 rs2) := of_some rfl (decodeWord_op ..)
theorem rvSll (rd : BitVec 5) (rs1 : BitVec 5) (rs2 : BitVec 5) : Statement (.rvSll rd rs1 rs2) := of_some rfl (decodeWord_op ..)
theorem rvSrl (rd : BitVec 5) (rs1 : BitVec 5) (rs2 : BitVec 5) : Statement (.rvSrl rd rs1 rs2) := of_some rfl (decodeWord_op ..)
theorem rvSra (rd : BitVec 5) (rs1 : BitVec 5) (rs2 : BitVec 5) : Statement (.rvSra rd rs1 rs2) := of_some rfl (decodeWord_op ..)
theorem rvSlt (rd : BitVec 5) (rs1 : BitVec 5) (rs2 : BitVec 5) : Statement (.rvSlt rd rs1 rs2) := of_some rfl (decodeWord_op ..)
theorem rvSltu (rd : BitVec 5) (rs1 : BitVec 5) (rs2 : BitVec 5) : Statement (.rvSltu rd rs1 rs2) := of_some rfl (decodeWord_op ..)
theorem rvAddi (rd : BitVec 5) (rs1 : BitVec 5) (imm : BitVec 12) : Statement (.rvAddi rd rs1 imm) := of_some rfl (decodeWord_opImm ..)
theorem rvXori (rd : BitVec 5) (rs1 : BitVec 5) (imm : BitVec 12) : Statement (.rvXori rd rs1 imm) := of_some rfl (decodeWord_opImm ..)
theorem rvOri (rd : BitVec 5) (rs1 : BitVec 5) (imm : BitVec 12) : Statement (.rvOri rd rs1 imm) := of_some rfl (decodeWord_opImm ..)
theorem rvAndi (rd : BitVec 5) (rs1 : BitVec 5) (imm : BitVec 12) : Statement (.rvAndi rd rs1 imm) := of_some rfl (decodeWord_opImm ..)
theorem rvSlli (rd : BitVec 5) (rs1 : BitVec 5) (shamt : BitVec 5) : Statement (.rvSlli rd rs1 shamt) := of_some rfl (decodeWord_shift ..)
theorem rvSrli (rd : BitVec 5) (rs1 : BitVec 5) (shamt : BitVec 5) : Statement (.rvSrli rd rs1 shamt) := of_some rfl (decodeWord_shift ..)
theorem rvSrai (rd : BitVec 5) (rs1 : BitVec 5) (shamt : BitVec 5) : Statement (.rvSrai rd rs1 shamt) := of_some rfl (decodeWord_shift ..)
theorem rvSlti (rd : BitVec 5) (rs1 : BitVec 5) (imm : BitVec 12) : Statement (.rvSlti rd rs1 imm) := of_some rfl (decodeWord_opImm ..)
theorem rvSltiu (rd : BitVec 5) (rs1 : BitVec 5) (imm : BitVec 12) : Statement (.rvSltiu rd rs1 imm) := of_some rfl (decodeWord_opImm ..)
theorem rvLb (rd : BitVec 5) (rs1 : BitVec 5) (imm : BitVec 12) : Statement (.rvLb rd rs1 imm) := of_some rfl (decodeWord_load ..)
theorem rvLh (rd : BitVec 5) (rs1 : BitVec 5) (imm : BitVec 12) : Statement (.rvLh rd rs1 imm) := of_some rfl (decodeWord_load ..)
theorem rvLw (rd : BitVec 5) (rs1 : BitVec 5) (imm : BitVec 12) : Statement (.rvLw rd rs1 imm) := of_some rfl (decodeWord_load ..)
theorem rvLbu (rd : BitVec 5) (rs1 : BitVec 5) (imm : BitVec 12) : Statement (.rvLbu rd rs1 imm) := of_some rfl (decodeWord_load ..)
theorem rvLhu (rd : BitVec 5) (rs1 : BitVec 5) (imm : BitVec 12) : Statement (.rvLhu rd rs1 imm) := of_some rfl (decodeWord_load ..)
theorem rvSb (rs1 : BitVec 5) (rs2 : BitVec 5) (imm : BitVec 12) : Statement (.rvSb rs1 rs2 imm) := of_some rfl (decodeWord_store ..)
theorem rvSh (rs1 : BitVec 5) (rs2 : BitVec 5) (imm : BitVec 12) : Statement (.rvSh rs1 rs2 imm) := of_some rfl (decodeWord_store ..)
theorem rvSw (rs1 : BitVec 5) (rs2 : BitVec 5) (imm : BitVec 12) : Statement (.rvSw rs1 rs2 imm) := of_some rfl (decodeWord_store ..)
theorem rvBeq (rs1 : BitVec 5) (rs2 : BitVec 5) (imm : BitVec 12) : Statement (.rvBeq rs1 rs2 imm) := of_some rfl (decodeWord_branch ..)
theorem rvBne (rs1 : BitVec 5) (rs2 : BitVec 5) (imm : BitVec 12) : Statement (.rvBne rs1 rs2 imm) := of_some rfl (decodeWord_branch ..)
theorem rvBlt (rs1 : BitVec 5) (rs2 : BitVec 5) (imm : BitVec 12) : Statement (.rvBlt rs1 rs2 imm) := of_some rfl (decodeWord_branch ..)
theorem rvBge (rs1 : BitVec 5) (rs2 : BitVec 5) (imm : BitVec 12) : Statement (.rvBge rs1 rs2 imm) := of_some rfl (decodeWord_branch ..)
theorem rvBltu (rs1 : BitVec 5) (rs2 : BitVec 5) (imm : BitVec 12) : Statement (.rvBltu rs1 rs2 imm) := of_some rfl (decodeWord_branch ..)
theorem rvBgeu (rs1 : BitVec 5) (rs2 : BitVec 5) (imm : BitVec 12) : Statement (.rvBgeu rs1 rs2 imm) := of_some rfl (decodeWord_branch ..)
theorem rvJal (rd : BitVec 5) (imm : BitVec 20) : Statement (.rvJal rd imm) := of_some rfl (decodeWord_jal ..)
theorem rvJalr (rd : BitVec 5) (rs1 : BitVec 5) (imm : BitVec 12) : Statement (.rvJalr rd rs1 imm) := of_some rfl (decodeWord_jalr ..)
theorem rvLui (rd : BitVec 5) (imm : BitVec 20) : Statement (.rvLui rd imm) := of_some rfl (decodeWord_lui ..)
theorem rvAuipc (rd : BitVec 5) (imm : BitVec 20) : Statement (.rvAuipc rd imm) := of_some rfl (decodeWord_auipc ..)
theorem rvMul (rd : BitVec 5) (rs1 : BitVec 5) (rs2 : BitVec 5) : Statement (.rvMul rd rs1 rs2) := of_some rfl (decodeWord_op ..)
theorem rvMulh (rd : BitVec 5) (rs1 : BitVec 5) (rs2 : BitVec 5) : Statement (.rvMulh rd rs1 rs2) := of_some rfl (decodeWord_op ..)
theorem rvMulhsu (rd : BitVec 5) (rs1 : BitVec 5) (rs2 : BitVec 5) : Statement (.rvMulhsu rd rs1 rs2) := of_some rfl (decodeWord_op ..)
theorem rvMulhu (rd : BitVec 5) (rs1 : BitVec 5) (rs2 : BitVec 5) : Statement (.rvMulhu rd rs1 rs2) := of_some rfl (decodeWord_op ..)
theorem rvDiv (rd : BitVec 5) (rs1 : BitVec 5) (rs2 : BitVec 5) : Statement (.rvDiv rd rs1 rs2) := of_some rfl (decodeWord_op ..)
theorem rvDivu (rd : BitVec 5) (rs1 : BitVec 5) (rs2 : BitVec 5) : Statement (.rvDivu rd rs1 rs2) := of_some rfl (decodeWord_op ..)
theorem rvRem (rd : BitVec 5) (rs1 : BitVec 5) (rs2 : BitVec 5) : Statement (.rvRem rd rs1 rs2) := of_some rfl (decodeWord_op ..)
theorem rvRemu (rd : BitVec 5) (rs1 : BitVec 5) (rs2 : BitVec 5) : Statement (.rvRemu rd rs1 rs2) := of_some rfl (decodeWord_op ..)
theorem rvTerminate (code : BitVec 12) : Statement (.rvTerminate code) := of_some rfl (decodeWord_custom0_imm ..)
theorem rvHintstorew (rd : BitVec 5) (imm : BitVec 12) : Statement (.rvHintstorew rd imm) := of_some rfl (decodeWord_custom0_imm ..)
theorem rvReveal (rs1 : BitVec 5) (rd : BitVec 5) (imm : BitVec 12) : Statement (.rvReveal rs1 rd imm) := of_some rfl (decodeWord_custom0_imm ..)
theorem rvHintinput : Statement .rvHintinput := of_some rfl (decodeWord_custom0_imm ..)
theorem rvKeccak256 (rd : BitVec 5) (rs1 : BitVec 5) (rs2 : BitVec 5) : Statement (.rvKeccak256 rd rs1 rs2) := of_some rfl (decodeWord_custom0 ..)
theorem rvAdd256 (rd : BitVec 5) (rs1 : BitVec 5) (rs2 : BitVec 5) : Statement (.rvAdd256 rd rs1 rs2) := of_some rfl (decodeWord_custom0 ..)
theorem rvSub256 (rd : BitVec 5) (rs1 : BitVec 5) (rs2 : BitVec 5) : Statement (.rvSub256 rd rs1 rs2) := of_some rfl (decodeWord_custom0 ..)
theorem rvXor256 (rd : BitVec 5) (rs1 : BitVec 5) (rs2 : BitVec 5) : Statement (.rvXor256 rd rs1 rs2) := of_some rfl (decodeWord_custom0 ..)
theorem rvOr256 (rd : BitVec 5) (rs1 : BitVec 5) (rs2 : BitVec 5) : Statement (.rvOr256 rd rs1 rs2) := of_some rfl (decodeWord_custom0 ..)
theorem rvAnd256 (rd : BitVec 5) (rs1 : BitVec 5) (rs2 : BitVec 5) : Statement (.rvAnd256 rd rs1 rs2) := of_some rfl (decodeWord_custom0 ..)
theorem rvSll256 (rd : BitVec 5) (rs1 : BitVec 5) (rs2 : BitVec 5) : Statement (.rvSll256 rd rs1 rs2) := of_some rfl (decodeWord_custom0 ..)
theorem rvSrl256 (rd : BitVec 5) (rs1 : BitVec 5) (rs2 : BitVec 5) : Statement (.rvSrl256 rd rs1 rs2) := of_some rfl (decodeWord_custom0 ..)
theorem rvSra256 (rd : BitVec 5) (rs1 : BitVec 5) (rs2 : BitVec 5) : Statement (.rvSra256 rd rs1 rs2) := of_some rfl (decodeWord_custom0 ..)
theorem rvSlt256 (rd : BitVec 5) (rs1 : BitVec 5) (rs2 : BitVec 5) : Statement (.rvSlt256 rd rs1 rs2) := of_some rfl (decodeWord_custom0 ..)
theorem rvSltu256 (rd : BitVec 5) (rs1 : BitVec 5) (rs2 : BitVec 5) : Statement (.rvSltu256 rd rs1 rs2) := of_some rfl (decodeWord_custom0 ..)
theorem rvBeq256 (rd : BitVec 5) (rs1 : BitVec 5) (rs2 : BitVec 5) : Statement (.rvBeq256 rd rs1 rs2) := of_some rfl (decodeWord_custom0 ..)
theorem rvBne256 (rd : BitVec 5) (rs1 : BitVec 5) (rs2 : BitVec 5) : Statement (.rvBne256 rd rs1 rs2) := of_some rfl (decodeWord_custom0 ..)
theorem rvBlt256 (rd : BitVec 5) (rs1 : BitVec 5) (rs2 : BitVec 5) : Statement (.rvBlt256 rd rs1 rs2) := of_some rfl (decodeWord_custom0 ..)
theorem rvBge256 (rd : BitVec 5) (rs1 : BitVec 5) (rs2 : BitVec 5) : Statement (.rvBge256 rd rs1 rs2) := of_some rfl (decodeWord_custom0 ..)
theorem rvBltu256 (rd : BitVec 5) (rs1 : BitVec 5) (rs2 : BitVec 5) : Statement (.rvBltu256 rd rs1 rs2) := of_some rfl (decodeWord_custom0 ..)
theorem rvBgeu256 (rd : BitVec 5) (rs1 : BitVec 5) (rs2 : BitVec 5) : Statement (.rvBgeu256 rd rs1 rs2) := of_some rfl (decodeWord_custom0 ..)
theorem rvMul256 (rd : BitVec 5) (rs1 : BitVec 5) (rs2 : BitVec 5) : Statement (.rvMul256 rd rs1 rs2) := of_some rfl (decodeWord_custom0 ..)
theorem rvAddmod (idx : BitVec 4) (rd : BitVec 5) (rs1 : BitVec 5) (rs2 : BitVec 5) : Statement (.rvAddmod idx rd rs1 rs2) := of_some rfl (decodeWord_modular ..)
theorem rvSubmod (idx : BitVec 4) (rd : BitVec 5) (rs1 : BitVec 5) (rs2 : BitVec 5) : Statement (.rvSubmod idx rd rs1 rs2) := of_some rfl (decodeWord_modular ..)
theorem rvMulmod (idx : BitVec 4) (rd : BitVec 5) (rs1 : BitVec 5) (rs2 : BitVec 5) : Statement (.rvMulmod idx rd rs1 rs2) := of_some rfl (decodeWord_modular ..)
theorem rvDivmod (idx : BitVec 4) (rd : BitVec 5) (rs1 : BitVec 5) (rs2 : BitVec 5) : Statement (.rvDivmod idx rd rs1 rs2) := of_some rfl (decodeWord_modular ..)
theorem rvIseqmod (idx : BitVec 4) (rd : BitVec 5) (rs1 : BitVec 5) (rs2 : BitVec 5) : Statement (.rvIseqmod idx rd rs1 rs2) := of_some rfl (decodeWord_modular ..)
theorem rvSwAddNe (idx : BitVec 4) (rd : BitVec 5) (rs1 : BitVec 5) (rs2 : BitVec 5) : Statement (.rvSwAddNe idx rd rs1 rs2) := of_some rfl (decodeWord_curve ..)
theorem rvSwDouble (idx : BitVec 4) (rd : BitVec 5) (rs1 : BitVec 5) : Statement (.rvSwDouble idx rd rs1) := of_some rfl (decodeWord_curve ..)

end Sys2Proof.Laws.RoundTrip
end

