-- ==== Sys2Proof/Laws/Transpile.lean ====
section
/-!
SUPPORT. Running a RISC-V word under its side condition is running what the transpiler answers for it.
-/

namespace Sys2Proof.Machine

/-- What running an answer of the transpiler means. -/
def runTranspiled (r : Except Refusal Instr) (s : State) : Host.Outcome State Fault Refusal :=
  match r with
  | .ok j => exec j s
  | .error why => .refused why

theorem runUnlessX0_eq {rd : BitVec 5} {run : State → Host.Outcome State Fault Refusal} {t : Instr} {s : State}
    (h : exec t s = run s) : runUnlessX0 rd run s = runTranspiled (unlessX0 rd t) s := by
  unfold runUnlessX0 unlessX0
  split_ifs with h0
  · rfl
  · exact h.symm

theorem runBranch256_eq {w : Word} {run : Int → State → Host.Outcome State Fault Refusal} {t : Int → Instr} {s : State}
    (h : ∀ off, exec (t off) s = run off s) : runBranch256 w run s = runTranspiled (withBranch256 s.cfg w t) s := by
  unfold runBranch256 withBranch256
  cases immBranch256 s.cfg w with
  | none => rfl
  | some off => exact (h off).symm

theorem runModulus_eq {idx : BitVec 4} {run : Nat → State → Host.Outcome State Fault Refusal} {t : Instr} {s : State}
    (h : exec t s = run idx.toNat s) : runModulus idx run s = runTranspiled (withModulus s.cfg idx t) s := by
  unfold runModulus withModulus
  split_ifs with h0
  · exact h.symm
  · rfl

theorem runCurve_eq {idx : BitVec 4} {run : Nat → State → Host.Outcome State Fault Refusal} {t : Instr} {s : State}
    (h : exec t s = run idx.toNat s) : runCurve idx run s = runTranspiled (withCurve s.cfg idx t) s := by
  unfold runCurve withCurve
  split_ifs with h0
  · exact h.symm
  · rfl

end Sys2Proof.Machine
end

