-- ==== Sys2Proof/Tests/Slice0.lean ====
section
/-!
SUPPORT. Tests of the model: decoding of written-out words, the well-formedness checks on ill-formed terms, one step of each kind of
instruction on the spec's own vectors (`95_test_vectors.md`), and for each statement with premises a state that meets them.
-/

namespace Sys2Proof.Tests

open Sys2Proof Sys2Proof.Machine

set_option Elab.async false

/-! ### Decoding: every constructor from a word or a tuple written out from the spec's encoding -/

/-- The register words: the match pattern of each row with the fields of R480 to R489, R517 to R524 filled in. -/
theorem test_decode_op : ∀ x ∈ ([
    (0x00C58533#32, .rvAdd 10 11 12), (0x40C58533#32, .rvSub 10 11 12), (0x00C5C533#32, .rvXor 10 11 12),
    (0x00C5E533#32, .rvOr 10 11 12), (0x00C5F533#32, .rvAnd 10 11 12), (0x00C59533#32, .rvSll 10 11 12),
    (0x00C5D533#32, .rvSrl 10 11 12), (0x40C5D533#32, .rvSra 10 11 12), (0x00C5A533#32, .rvSlt 10 11 12),
    (0x00C5B533#32, .rvSltu 10 11 12), (0x02C58533#32, .rvMul 10 11 12), (0x02C59533#32, .rvMulh 10 11 12),
    (0x02C5A533#32, .rvMulhsu 10 11 12), (0x02C5B533#32, .rvMulhu 10 11 12), (0x02C5C533#32, .rvDiv 10 11 12),
    (0x02C5D533#32, .rvDivu 10 11 12), (0x02C5E533#32, .rvRem 10 11 12), (0x02C5F533#32, .rvRemu 10 11 12)] : List (Word × Instr)),
    decodeWord x.1 = some x.2 := by decide +kernel

/-- The immediate words: the match pattern of each row with the fields of R490 to R498 filled in. -/
theorem test_decode_op_imm : ∀ x ∈ ([
    (0xFFC30293#32, .rvAddi 5 6 0xFFC), (0xFFC34293#32, .rvXori 5 6 0xFFC), (0xFFC36293#32, .rvOri 5 6 0xFFC),
    (0xFFC37293#32, .rvAndi 5 6 0xFFC), (0x01F31293#32, .rvSlli 5 6 31), (0x01F35293#32, .rvSrli 5 6 31),
    (0x41F35293#32, .rvSrai 5 6 31), (0xFFC32293#32, .rvSlti 5 6 0xFFC), (0xFFC33293#32, .rvSltiu 5 6 0xFFC)] : List (Word × Instr)),
    decodeWord x.1 = some x.2 := by decide +kernel

/-- The loads, stores, branches, jumps and upper immediates: the match pattern of each row with the fields of R499 to R516 filled in. -/
theorem test_decode_memory_and_control : ∀ x ∈ ([
    (0xFFC30283#32, .rvLb 5 6 0xFFC), (0xFFC31283#32, .rvLh 5 6 0xFFC), (0xFFC32283#32, .rvLw 5 6 0xFFC),
    (0xFFC34283#32, .rvLbu 5 6 0xFFC), (0xFFC35283#32, .rvLhu 5 6 0xFFC), (0xFE730423#32, .rvSb 6 7 0xFE8),
    (0xFE731423#32, .rvSh 6 7 0xFE8), (0xFE732423#32, .rvSw 6 7 0xFE8), (0xFE730CE3#32, .rvBeq 6 7 0xFFC),
    (0xFE731CE3#32, .rvBne 6 7 0xFFC), (0xFE734CE3#32, .rvBlt 6 7 0xFFC), (0xFE735CE3#32, .rvBge 6 7 0xFFC),
    (0xFE736CE3#32, .rvBltu 6 7 0xFFC), (0xFE737CE3#32, .rvBgeu 6 7 0xFFC), (0xFF1FF0EF#32, .rvJal 1 0xFFFF8),
    (0xFFC302E7#32, .rvJalr 5 6 0xFFC), (0x123452B7#32, .rvLui 5 0x12345), (0x12345297#32, .rvAuipc 5 0x12345)] : List (Word × Instr)),
    decodeWord x.1 = some x.2 := by decide +kernel

/-- The system, user IO and hash words: the match pattern of each row with the fields of R529 to R533 filled in. -/
theorem test_decode_custom0 : ∀ x ∈ ([
    (0xFFF0000B#32, .rvTerminate 0xFFF), (0x0080130B#32, .rvHintstorew 6 8), (0x0045238B#32, .rvReveal 10 7 4),
    (0x0000300B#32, .rvHintinput), (0x00C5C50B#32, .rvKeccak256 10 11 12)] : List (Word × Instr)),
    decodeWord x.1 = some x.2 := by decide +kernel

/-- The 256-bit words: the match pattern of each row with the fields of R534 to R550 filled in. -/
theorem test_decode_int256 : ∀ x ∈ ([
    (0x00C5D50B#32, .rvAdd256 10 11 12), (0x02C5D50B#32, .rvSub256 10 11 12), (0x04C5D50B#32, .rvXor256 10 11 12),
    (0x06C5D50B#32, .rvOr256 10 11 12), (0x08C5D50B#32, .rvAnd256 10 11 12), (0x0AC5D50B#32, .rvSll256 10 11 12),
    (0x0CC5D50B#32, .rvSrl256 10 11 12), (0x0EC5D50B#32, .rvSra256 10 11 12), (0x10C5D50B#32, .rvSlt256 10 11 12),
    (0x12C5D50B#32, .rvSltu256 10 11 12), (0x14C5D50B#32, .rvBeq256 10 11 12), (0x16C5D50B#32, .rvBne256 10 11 12),
    (0x18C5D50B#32, .rvBlt256 10 11 12), (0x1AC5D50B#32, .rvBge256 10 11 12), (0x1CC5D50B#32, .rvBltu256 10 11 12),
    (0x1EC5D50B#32, .rvBgeu256 10 11 12), (0x20C5D50B#32, .rvMul256 10 11 12)] : List (Word × Instr)),
    decodeWord x.1 = some x.2 := by decide +kernel

/-- The modular and curve words, for index 0 and for index 15: the match pattern of each row with the fields of R551 to R557 filled in. -/
theorem test_decode_custom1 : ∀ x ∈ ([
    (0x00C5852B#32, .rvAddmod 0 10 11 12), (0xF0C5852B#32, .rvAddmod 15 10 11 12), (0x02C5852B#32, .rvSubmod 0 10 11 12),
    (0xF2C5852B#32, .rvSubmod 15 10 11 12), (0x04C5852B#32, .rvMulmod 0 10 11 12), (0xF4C5852B#32, .rvMulmod 15 10 11 12),
    (0x06C5852B#32, .rvDivmod 0 10 11 12), (0xF6C5852B#32, .rvDivmod 15 10 11 12), (0x08C5852B#32, .rvIseqmod 0 10 11 12),
    (0xF8C5852B#32, .rvIseqmod 15 10 11 12), (0x00C5952B#32, .rvSwAddNe 0 10 11 12),
    (0xF0C5952B#32, .rvSwAddNe 15 10 11 12), (0x0205952B#32, .rvSwDouble 0 10 11), (0xF205952B#32, .rvSwDouble 15 10 11)] : List (Word × Instr)),
    decodeWord x.1 = some x.2 := by decide +kernel

/-- The tuples of the axVM instructions, each operand at its own position (R120, R122); the opcode numbers are the launch
configuration's (log 4). -/
theorem test_decode_tuples : ∀ x ∈ ([
    (0, .terminate), (2, .addRv32), (3, .subRv32), (4, .xorRv32), (5, .orRv32), (6, .andRv32), (7, .sllRv32), (8, .srlRv32),
    (9, .sraRv32), (10, .sltRv32), (11, .sltuRv32), (12, .loadbRv32), (13, .loadhRv32), (14, .loadwRv32), (15, .loadbuRv32),
    (16, .loadhuRv32), (17, .storebRv32), (18, .storehRv32), (19, .storewRv32), (20, .beqRv32), (21, .bneRv32),
    (22, .bltRv32), (23, .bgeRv32), (24, .bltuRv32), (25, .bgeuRv32), (26, .jalRv32), (27, .jalrRv32), (28, .luiRv32),
    (29, .auipcRv32), (30, .mulRv32), (31, .mulhRv32), (32, .mulhsuRv32), (33, .mulhuRv32), (34, .divRv32), (35, .divuRv32),
    (36, .remRv32), (37, .remuRv32), (38, .hintstorewRv32), (39, .keccak256Rv32), (40, .add256Rv32), (41, .sub256Rv32),
    (42, .xor256Rv32), (43, .or256Rv32), (44, .and256Rv32), (45, .sll256Rv32), (46, .srl256Rv32), (47, .sra256Rv32),
    (48, .slt256Rv32), (49, .sltu256Rv32), (50, .beq256Rv32), (51, .bne256Rv32), (52, .blt256Rv32), (53, .bge256Rv32),
    (54, .bltu256Rv32), (55, .bgeu256Rv32), (56, .mul256Rv32), (57, .addmodRv32 0), (58, .submodRv32 0),
    (59, .mulmodRv32 0), (60, .divmodRv32 0), (61, .iseqmodRv32 0), (62, .swAddNe 0), (63, .swDouble 0), (64, .load 1),
    (65, .load 2), (66, .load 4), (67, .load 8), (68, .load 16), (69, .load 32), (70, .load 64), (71, .store 1),
    (72, .store 2), (73, .store 4), (74, .store 8), (75, .store 16), (76, .store 32), (77, .store 64), (78, .load2),
    (79, .store2), (80, .shintw), (81, .jal), (82, .beq 1), (83, .beq 2), (84, .beq 4), (85, .beq 8), (86, .beq 16),
    (87, .beq 32), (88, .beq 64), (89, .bne 1), (90, .bne 2), (91, .bne 4), (92, .bne 8), (93, .bne 16), (94, .bne 32),
    (95, .bne 64), (96, .publish), (97, .castf), (98, .addf), (99, .subf), (100, .mulf), (101, .divf), (102, .fe4add),
    (103, .fe4sub), (104, .bbe4mul), (105, .bbe4div), (106, .compressPoseidon2), (107, .permPoseidon2)] : List (Nat × (Operands → Instr))),
    decode Config.launch (.tuple ⟨x.1, ⟨1, 2, 3, 4, 5, 6, 7⟩⟩) = some (x.2 ⟨1, 2, 3, 4, 5, 6, 7⟩) := by decide +kernel

/-- The phantom sub-instructions: discriminant in the low 16 bits of `c`, `c_upper` above (R190, S10). -/
theorem test_decode_phantoms : ∀ x ∈ ([
    (0, .phantomNop), (1, .phantomDebugPanic), (2, .phantomPrintF), (3, .phantomHintInput), (4, .phantomHintBits),
    (5, .phantomCtStart), (6, .phantomCtEnd), (7, .phantomHintFinalExpBn254), (8, .phantomHintFinalExpBls12381)] : List (Nat × (PhantomOperands → Instr))),
    decode Config.launch (.tuple ⟨1, ⟨2, 9, 0x40000 + x.1, 0, 0, 0, 0⟩⟩) = some (x.2 ⟨2, 9, 4, 0, 0, 0, 0⟩) := by decide +kernel

/-- A discriminant that is not assigned stays `PHANTOM` (R198), and `STOREW_RV32` with `e = 3` is `REVEAL_RV32` (R130, R331). -/
theorem test_decode_shared_opcodes :
    decode Config.launch (.tuple ⟨1, ⟨0, 0, 9, 0, 0, 0, 0⟩⟩) = some (.phantom ⟨0, 0, 9, 0, 0, 0, 0⟩) ∧
    decode Config.launch (.tuple ⟨19, ⟨40, 0, 4, 1, 3, 0, 0⟩⟩) = some (.revealRv32 ⟨40, 0, 4, 1, 3, 0, 0⟩) := by decide +kernel

/-- Words that stand for no instruction (R149, R154, R476). -/
theorem test_reserved_words : ∀ n ∈ ([0x00000073, 0x0000000F, 0x0200400B, 0x2200500B, 0x0000600B, 0x0010300B, 0x0A00002B,
    0x0410102B, 0x0000202B, 0x04000033, 0x00002063, 0x00007003, 0x00000001, 0x0000002F,
    0x0000700B, 0xF2C5952B, 0x00000007, 0x00000053] : List Nat),
    decodeWord (BitVec.ofNat 32 n) = none := by decide +kernel

/-! ### Well-formedness: each check refuses an ill-formed term -/

/-- A well-formed term of each shape passes (operand lists of R124). -/
theorem test_wf_accepts : ∀ i ∈ ([.addRv32 ⟨12, 4, 8, 1, 1, 0, 0⟩, .addRv32 ⟨8, 4, 0xFF8000, 1, 0, 0, 0⟩,
    .beqRv32 ⟨4, 8, 2013265913, 1, 1, 0, 0⟩, .load 4 ⟨20, 3, 10, 4, 4, 0, 0⟩, .swDouble 0 ⟨40, 44, 0, 1, 2, 0, 0⟩,
    .phantomHintBits ⟨9, 32, 4, 0, 0, 0, 0⟩, .rvIseqmod 15 1 2 3] : List Instr), i.wellFormed Config.launch = true := by
  decide +kernel

/-- An ill-formed term for each check: an operand that is no field element, each fixed operand wrong, an immediate or offset outside its
form, an address space that is not supported, a width, modulus or curve that is not configured, an opcode that is not in use, a
phantom with operands, too many bits, a discriminant of another constructor (R13, R83, R124 to R126, R130, R190). -/
theorem test_wf_refuses : ∀ i ∈ ([.terminate ⟨0, 0, 2013265921, 0, 0, 0, 0⟩, .terminate ⟨1, 0, 0, 0, 0, 0, 0⟩,
    .addRv32 ⟨12, 4, 8, 2, 1, 0, 0⟩, .addRv32 ⟨12, 4, 8, 1, 2, 0, 0⟩, .addRv32 ⟨8, 4, 0x008000, 1, 0, 0, 0⟩,
    .addRv32 ⟨8, 4, 0x1000000, 1, 0, 0, 0⟩, .loadwRv32 ⟨48, 24, 0x10000, 1, 2, 0, 0⟩, .loadwRv32 ⟨48, 24, 4, 1, 5, 0, 0⟩,
    .beqRv32 ⟨4, 8, 16777216, 1, 1, 0, 0⟩, .jalRv32 ⟨4, 0, 8, 1, 0, 2, 0⟩, .luiRv32 ⟨20, 0, 0x100000, 1, 0, 1, 0⟩,
    .luiRv32 ⟨20, 0, 1, 1, 0, 0, 0⟩, .auipcRv32 ⟨20, 0, 1, 1, 0, 1, 0⟩, .mulRv32 ⟨40, 40, 40, 1, 1, 0, 0⟩,
    .hintstorewRv32 ⟨1, 24, 8, 1, 2, 0, 0⟩, .revealRv32 ⟨40, 0, 0, 1, 2, 0, 0⟩, .keccak256Rv32 ⟨40, 44, 48, 1, 0, 0, 0⟩,
    .add256Rv32 ⟨40, 44, 48, 1, 1, 0, 0⟩, .addmodRv32 1 ⟨40, 44, 48, 1, 2, 0, 0⟩, .swAddNe 1 ⟨40, 44, 48, 1, 2, 0, 0⟩,
    .swDouble 0 ⟨40, 44, 48, 1, 2, 0, 0⟩, .load 3 ⟨20, 3, 10, 4, 4, 0, 0⟩, .beq 1 ⟨5, 6, 8, 4, 0, 0, 0⟩,
    .beq 1 ⟨5, 6, 16777216, 4, 4, 0, 0⟩, .bne 4 ⟨8, 12, 1996488704, 4, 4, 0, 0⟩, .jal ⟨30, 16777216, 0, 4, 0, 0, 0⟩,
    .addf ⟨5, 2, 3, 0, 4, 0, 0⟩, .shintw ⟨1, 1, 0, 4, 4, 0, 0⟩, .phantomNop ⟨1, 0, 0, 0, 0, 0, 0⟩,
    .phantomHintBits ⟨9, 33, 4, 0, 0, 0, 0⟩, .phantomPrintF ⟨2, 0, 0, 0, 0, 0, 0⟩, .phantom ⟨0, 0, 3, 0, 0, 0, 0⟩,
    .storewRv32 ⟨20, 0, 8, 1, 3, 0, 0⟩] : List Instr), i.wellFormed Config.launch = false := by decide +kernel

/-! ### One step of each kind of instruction, on the spec's vectors -/

/-- The state with a row of cells set. -/
def cells (s : State) (sp q : Nat) (l : List Nat) : State := { s with mem := s.mem.writeCells sp q l }

/-- The state with register `r` set. -/
def reg (s : State) (r v : Nat) : State := cells s 1 (4 * r) (leBytes v 4)

/-- The state with a 256-bit block of user memory set. -/
def wide (s : State) (q v : Nat) : State := cells s 2 q (leBytes v 32)

/-- The launch state with `x1`, `x2` and `x3` set. -/
def regs (x1 x2 x3 : Nat) : State := reg (reg (reg State.reset 1 x1) 2 x2) 3 x3

/-- The `pc` and the little-endian number in `n` cells after an instruction that completes. -/
def seen (r : Host.Outcome State Fault Refusal) (sp q n : Nat) : Option (Nat × Nat) :=
  match r with
  | .next t => some (t.pc, leNat (t.mem.readCells sp q n))
  | _ => none

/-- The cells after an instruction that completes. -/
def cellsOf (r : Host.Outcome State Fault Refusal) (sp q n : Nat) : Option (List Nat) :=
  match r with
  | .next t => some (t.mem.readCells sp q n)
  | _ => none

/-- The state after an instruction that completes. -/
def nextOf (r : Host.Outcome State Fault Refusal) : Option State :=
  match r with
  | .next t => some t
  | _ => none

/-- The fault of an instruction. -/
def stop (r : Host.Outcome State Fault Refusal) : Option Fault :=
  match r with
  | .fault cause => some cause
  | _ => none

/-- Vectors A1 to A4, A9 to A21. -/
theorem test_alu : ∀ x ∈ ([
    (.addRv32 ⟨8, 4, 12, 1, 1, 0, 0⟩, 0xFFFFFFFF, 1, 0), (.addRv32 ⟨8, 4, 0xFFFFFF, 1, 0, 0, 0⟩, 5, 0, 4),
    (.addRv32 ⟨8, 4, 0x7FFF, 1, 0, 0, 0⟩, 0, 0, 0x7FFF), (.addRv32 ⟨8, 4, 0xFF8000, 1, 0, 0, 0⟩, 0, 0, 0xFFFF8000),
    (.subRv32 ⟨8, 4, 12, 1, 1, 0, 0⟩, 0, 1, 0xFFFFFFFF), (.xorRv32 ⟨8, 4, 0xFFFFFF, 1, 0, 0, 0⟩, 0x0F0F0F0F, 0, 0xF0F0F0F0),
    (.orRv32 ⟨8, 4, 0xFF, 1, 0, 0, 0⟩, 0x12340000, 0, 0x123400FF), (.andRv32 ⟨8, 4, 0xFFFF00, 1, 0, 0, 0⟩, 0x12345678, 0, 0x12345600),
    (.sllRv32 ⟨8, 4, 1, 1, 0, 0, 0⟩, 0x80000001, 0, 2), (.sllRv32 ⟨8, 4, 12, 1, 1, 0, 0⟩, 1, 33, 2),
    (.srlRv32 ⟨8, 4, 4, 1, 0, 0, 0⟩, 0x80000000, 0, 0x08000000), (.sraRv32 ⟨8, 4, 4, 1, 0, 0, 0⟩, 0x80000000, 0, 0xF8000000),
    (.sraRv32 ⟨8, 4, 31, 1, 0, 0, 0⟩, 0x80000000, 0, 0xFFFFFFFF), (.sltRv32 ⟨8, 4, 1, 1, 0, 0, 0⟩, 0xFFFFFFFF, 0, 1),
    (.sltuRv32 ⟨8, 4, 1, 1, 0, 0, 0⟩, 0xFFFFFFFF, 0, 0), (.sltuRv32 ⟨8, 4, 0xFFFFFF, 1, 0, 0, 0⟩, 5, 0, 1)] :
      List (Instr × Nat × Nat × Nat)),
    seen (exec x.1 (regs x.2.1 0x55AA55AA x.2.2.1)) 1 8 4 = some (4, x.2.2.2) := by decide +kernel

/-- Vectors A5 to A8, M11 to M14, B9, B18, T3, T7, T13, T15, T16 and the last line of section 2.5: the causes. -/
theorem test_faults : ∀ x ∈ ([
    (.addRv32 ⟨8, 4, 0x1000000, 1, 0, 0, 0⟩, .badOperand), (.addRv32 ⟨8, 4, 0x7FFFFF, 1, 0, 0, 0⟩, .badOperand),
    (.addRv32 ⟨8, 4, 8, 2, 1, 0, 0⟩, .badOperand), (.addRv32 ⟨6, 4, 8, 1, 1, 0, 0⟩, .misaligned),
    (.addRv32 ⟨8, 16, 0, 1, 0, 0, 0⟩, .notByte), (.loadwRv32 ⟨48, 24, 2, 1, 2, 0, 0⟩, .misaligned),
    (.loadhRv32 ⟨44, 24, 1, 1, 2, 0, 0⟩, .misaligned), (.loadwRv32 ⟨48, 0, 0xFFFC, 1, 2, 0, 0⟩, .pointerOutOfRange),
    (.loadwRv32 ⟨48, 24, 0x10000, 1, 2, 0, 0⟩, .badOperand), (.beqRv32 ⟨4, 8, babyBear - 4, 1, 1, 0, 0⟩, .pcOutOfRange),
    (.luiRv32 ⟨20, 0, 0x100000, 1, 0, 1, 0⟩, .badOperand), (.mulRv32 ⟨40, 40, 40, 1, 1, 0, 0⟩, .badOperand),
    (.terminate ⟨1, 0, 0, 0, 0, 0, 0⟩, .badOperand), (.phantomPrintF ⟨2, 0, 0, 0, 0, 0, 0⟩, .badAddressSpace),
    (.phantomHintBits ⟨9, 33, 4, 0, 0, 0, 0⟩, .badOperand), (.phantomHintFinalExpBn254 ⟨0, 0, 0, 0, 0, 0, 0⟩, .unmodelledPhantom),
    (.phantom ⟨0, 0, 9, 0, 0, 0, 0⟩, .unknownPhantom)] : List (Instr × Fault)),
    stop (exec x.1 (reg (cells (regs 7 7 0) 1 16 [0, 1, 0, 300]) 6 256)) = some x.2 := by decide +kernel

/-- The user memory of section 2.3. -/
def loadState : State := cells (reg (reg (reg State.reset 6 256) 5 0x12345678) 8 0xFFFFFF80) 2 252 [1, 2, 3, 4, 0, 0, 0, 0, 0x00, 0x80, 0x80, 0x12]

/-- Vectors M1 to M3, M5 to M10, M15: the stores first, with the cells they write and those around them. -/
theorem test_load_store : ∀ x ∈ ([
    (.storewRv32 ⟨20, 24, 4, 1, 2, 0, 0⟩, 2, 256, 8, 0x12345678 * 2 ^ 32), (.storehRv32 ⟨20, 24, 2, 1, 2, 0, 0⟩, 2, 256, 4, 0x56780000),
    (.storebRv32 ⟨32, 24, 6, 1, 2, 0, 0⟩, 2, 260, 4, 0x12808000), (.revealRv32 ⟨20, 0, 8, 1, 3, 0, 0⟩, 3, 8, 4, 0x12345678),
    (.loadbRv32 ⟨36, 24, 6, 1, 2, 0, 0⟩, 1, 36, 4, 0xFFFFFF80), (.loadbuRv32 ⟨40, 24, 6, 1, 2, 0, 0⟩, 1, 40, 4, 0x80),
    (.loadhRv32 ⟨44, 24, 6, 1, 2, 0, 0⟩, 1, 44, 4, 0x1280), (.loadhRv32 ⟨44, 24, 4, 1, 2, 0, 0⟩, 1, 44, 4, 0xFFFF8000),
    (.loadhuRv32 ⟨40, 24, 4, 1, 2, 0, 0⟩, 1, 40, 4, 0x8000), (.loadwRv32 ⟨48, 24, 0xFFFC, 1, 2, 0, 0⟩, 1, 48, 4, 0x04030201)] :
      List (Instr × Nat × Nat × Nat × Nat)),
    seen (exec x.1 loadState) x.2.1 x.2.2.1 x.2.2.2.1 = some (4, x.2.2.2.2) := by decide +kernel

/-- Vectors B1 to B8: `pc` after a branch at 16 on the values of `x1` and `x2`. -/
theorem test_branch : ∀ x ∈ ([
    (.beqRv32 ⟨4, 8, 12, 1, 1, 0, 0⟩, 7, 7, 28), (.beqRv32 ⟨4, 8, 12, 1, 1, 0, 0⟩, 7, 8, 20),
    (.bneRv32 ⟨4, 0, babyBear - 8, 1, 1, 0, 0⟩, 4, 0, 8), (.bltRv32 ⟨4, 8, 8, 1, 1, 0, 0⟩, 0xFFFFFFFF, 1, 24),
    (.bltuRv32 ⟨4, 8, 8, 1, 1, 0, 0⟩, 0xFFFFFFFF, 1, 20), (.bgeuRv32 ⟨4, 8, 8, 1, 1, 0, 0⟩, 0xFFFFFFFF, 1, 24),
    (.bgeRv32 ⟨4, 8, 8, 1, 1, 0, 0⟩, 0x80000000, 0, 20), (.bgeRv32 ⟨4, 8, 8, 1, 1, 0, 0⟩, 9, 9, 24)] :
      List (Instr × Nat × Nat × Nat)),
    seen (exec x.1 { regs x.2.1 x.2.2.1 0 with pc := 16 }) 1 0 4 = some (x.2.2.2, 0) := by decide +kernel

/-- Vectors B10 to B17, B19, B20: the cells are those of `x1` or `x5`. -/
theorem test_jump : ∀ x ∈ ([
    (.jalRv32 ⟨4, 0, 8, 1, 0, 1, 0⟩, 4, 0, 4, 12, 8), (.jalRv32 ⟨0, 0, babyBear - 16, 1, 0, 0, 0⟩, 32, 5, 4, 16, 5),
    (.jalrRv32 ⟨0, 4, 0, 1, 0, 0, 0⟩, 16, 8, 4, 8, 8), (.jalrRv32 ⟨4, 4, 0xFFFC, 1, 0, 1, 0⟩, 16, 0x104, 4, 0x100, 20),
    (.jalrRv32 ⟨4, 4, 0, 1, 0, 1, 0⟩, 16, 0x40, 4, 0x40, 20), (.jalrRv32 ⟨0, 4, 0, 1, 0, 0, 0⟩, 16, 9, 4, 9, 9),
    (.luiRv32 ⟨20, 0, 0x12345, 1, 0, 1, 0⟩, 0, 0, 20, 4, 0x12345000), (.luiRv32 ⟨20, 0, 0xFFFFF, 1, 0, 1, 0⟩, 0, 0, 20, 4, 0xFFFFF000),
    (.auipcRv32 ⟨20, 0, 2, 1, 0, 0, 0⟩, 0x1000, 0, 20, 0x1004, 0x3000),
    (.auipcRv32 ⟨20, 0, 0xFFFFF, 1, 0, 0, 0⟩, 0x1000, 0, 20, 0x1004, 0)] : List (Instr × Nat × Nat × Nat × Nat × Nat)),
    seen (exec x.1 { regs x.2.2.1 0 0 with pc := x.2.1 }) 1 x.2.2.2.1 4 = some x.2.2.2.2 := by decide +kernel

/-- The multiplication table of section 2.5. -/
theorem test_mul : ∀ x ∈ ([(0x80000000, 0x80000000, 0, 0x40000000, 0xC0000000, 0x40000000),
    (0xFFFFFFFF, 2, 0xFFFFFFFE, 0xFFFFFFFF, 0xFFFFFFFF, 1), (0x80000000, 0xFFFFFFFF, 0x80000000, 0, 0x80000000, 0x7FFFFFFF)] :
      List (Nat × Nat × Nat × Nat × Nat × Nat)),
    [Instr.mulRv32, .mulhRv32, .mulhsuRv32, .mulhuRv32].map
      (fun f => seen (exec (f ⟨12, 4, 8, 1, 0, 0, 0⟩) (regs x.1 x.2.1 9)) 1 12 4) =
      [x.2.2.1, x.2.2.2.1, x.2.2.2.2.1, x.2.2.2.2.2].map (fun v => some (4, v)) := by decide +kernel

/-- The division table of section 2.5. -/
theorem test_div : ∀ x ∈ ([(0xFFFFFFF9, 2, 0xFFFFFFFD, 0xFFFFFFFF, 0x7FFFFFFC, 1), (7, 0xFFFFFFFE, 0xFFFFFFFD, 1, 0, 7),
    (0xFFFFFFF9, 0xFFFFFFFE, 3, 0xFFFFFFFF, 0, 0xFFFFFFF9), (7, 0, 0xFFFFFFFF, 7, 0xFFFFFFFF, 7),
    (0x80000000, 0xFFFFFFFF, 0x80000000, 0, 0, 0x80000000)] : List (Nat × Nat × Nat × Nat × Nat × Nat)),
    [Instr.divRv32, .remRv32, .divuRv32, .remuRv32].map
      (fun f => seen (exec (f ⟨12, 4, 8, 1, 0, 0, 0⟩) (regs x.1 x.2.1 9)) 1 12 4) =
      [x.2.2.1, x.2.2.2.1, x.2.2.2.2.1, x.2.2.2.2.2].map (fun v => some (4, v)) := by decide +kernel

/-- The registers of section 2.7, with the two input blocks. -/
def wideState (x y : Nat) : State := wide (wide (reg (reg (reg State.reset 10 256) 11 288) 12 320) 288 x) 320 y

/-- Vectors W1 to W15. -/
theorem test_int256 : ∀ x ∈ ([
    (.add256Rv32, 2 ^ 256 - 1, 1, 0), (.sub256Rv32, 0, 1, 2 ^ 256 - 1), (.or256Rv32, 2 ^ 255, 1, 2 ^ 255 + 1),
    (.xor256Rv32, 0x0F0F, 0xFFFF, 0xF0F0), (.and256Rv32, 2 ^ 256 - 1, 0xFF00, 0xFF00), (.sll256Rv32, 2 ^ 255 + 1, 1, 2),
    (.sll256Rv32, 1, 256, 1), (.srl256Rv32, 2 ^ 255, 255, 1), (.sra256Rv32, 2 ^ 255, 255, 2 ^ 256 - 1),
    (.sra256Rv32, 2 ^ 255, 4, 0xF8 * 2 ^ 248), (.slt256Rv32, 2 ^ 256 - 1, 0, 1), (.sltu256Rv32, 2 ^ 256 - 1, 0, 0),
    (.mul256Rv32, 2 ^ 128, 2 ^ 128, 0), (.mul256Rv32, 2 ^ 256 - 1, 2 ^ 256 - 1, 1)] : List ((Operands → Instr) × Nat × Nat × Nat)),
    seen (exec (x.1 ⟨40, 44, 48, 1, 2, 0, 0⟩) (wideState x.2.1 x.2.2.1)) 2 256 32 = some (4, x.2.2.2) := by decide +kernel

/-- The branches of section 2.7 at `pc = 40`: on equal blocks, and on `2^255` and 0. -/
theorem test_branch256 : ∀ x ∈ ([(.beq256Rv32, 52, 44), (.bne256Rv32, 44, 52), (.blt256Rv32, 44, 52), (.bge256Rv32, 52, 44),
    (.bltu256Rv32, 44, 44), (.bgeu256Rv32, 52, 52)] : List ((Operands → Instr) × Nat × Nat)),
    seen (exec (x.1 ⟨44, 48, 12, 1, 2, 0, 0⟩) { wideState 5 5 with pc := 40 }) 1 0 4 = some (x.2.1, 0) ∧
    seen (exec (x.1 ⟨44, 48, 12, 1, 2, 0, 0⟩) { wideState (2 ^ 255) 0 with pc := 40 }) 1 0 4 = some (x.2.2, 0) := by
  decide +kernel

/-- Vectors T1, T2, T8, T9, T11, T12, H1: the queues and the status. -/
theorem test_system_and_hints :
    nextOf (exec (.terminate ⟨0, 0, 5, 0, 0, 0, 0⟩) State.reset) =
      some { State.reset with status := .terminated 5 } ∧
    nextOf (exec (.phantomHintInput ⟨0, 0, 0, 0, 0, 0, 0⟩) { State.reset with inputStream := [[10, 20], [7]], hintStream := [99] }) =
      some { State.reset with pc := 4, inputStream := [[7]], hintStream := [2, 10, 20] } ∧
    nextOf (exec .rvHintinput { State.reset with inputStream := [[]] }) =
      some { State.reset with pc := 4, hintStream := [0] } ∧
    nextOf (exec (.phantomHintBits ⟨9, 3, 4, 0, 0, 0, 0⟩) (cells State.reset 4 9 [6])) =
      some { cells State.reset 4 9 [6] with pc := 4, hintStream := [0, 1, 1] } ∧
    nextOf (exec (.hintstorewRv32 ⟨0, 24, 8, 1, 2, 0, 0⟩) { reg State.reset 6 256 with hintStream := [0x78, 0x56, 0x34, 0x12, 9] }) =
      some { cells (reg State.reset 6 256) 2 264 [0x78, 0x56, 0x34, 0x12] with pc := 4, hintStream := [9] } := by decide +kernel

/-- Vectors H2, H3, H6, H7, Z5, E3, E5, K8, K14, K16, K19, K27, K28, K36: the causes. -/
theorem test_more_faults : ∀ x ∈ ([
    (.hintstorewRv32 ⟨0, 24, 8, 1, 2, 0, 0⟩, { reg State.reset 6 256 with hintStream := [1, 2, 3] }, .hintStreamEmpty),
    (.hintstorewRv32 ⟨0, 24, 8, 1, 2, 0, 0⟩, { reg State.reset 6 256 with hintStream := [1, 2, 300, 4] }, .notByte),
    (.keccak256Rv32 ⟨40, 44, 48, 1, 2, 0, 0⟩, reg (reg State.reset 10 514) 11 256, .misaligned),
    (.keccak256Rv32 ⟨40, 44, 48, 1, 2, 0, 0⟩, reg (reg State.reset 10 512) 12 0xFFFFFFFF, .pointerOutOfRange),
    (.divmodRv32 0 ⟨40, 44, 48, 1, 2, 0, 0⟩, wideState 3 65521, .divmodNotCoprime),
    (.iseqmodRv32 0 ⟨20, 44, 48, 1, 2, 0, 0⟩, wideState 4 65525, .notReduced),
    (.swAddNe 0 ⟨40, 44, 48, 1, 2, 0, 0⟩, wideState 0x50001 0x70012, .ecSameX),
    (.swDouble 0 ⟨40, 44, 0, 1, 2, 0, 0⟩, wideState 0x60001 0, .ecNotOnCurve),
    (.swDouble 0 ⟨40, 44, 0, 1, 2, 0, 0⟩, wideState 0x00003 0, .ecDoubleOrder2),
    (.shintw ⟨0, 1, 0, 4, 4, 0, 0⟩, State.reset, .hintStreamEmpty),
    (.beq 1 ⟨5, 6, 8, 4, 0, 0, 0⟩, State.reset, .badAddressSpace), (.jal ⟨30, 1006632961, 0, 4, 0, 0, 0⟩, State.reset, .badOperand),
    (.publish ⟨0, 6, 0, 4, 4, 0, 0⟩, { cells State.reset 4 6 [194] with publicValues := [(0, 193)] }, .publishMismatch),
    (.castf ⟨8, 6, 0, 4, 4, 0, 0⟩, cells State.reset 4 6 [2 ^ 30], .castfRange),
    (.divf ⟨5, 2, 3, 4, 4, 0, 0⟩, cells State.reset 4 2 [7, 0], .divByZeroF),
    (.bbe4div ⟨8, 12, 16, 4, 4, 0, 0⟩, cells State.reset 4 12 [1, 0, 0, 0], .divByZeroF)] : List (Instr × State × Fault)),
    stop (exec x.1 x.2.1) = some x.2.2 := by decide +kernel

/-- Vectors Z7 and Z8. -/
theorem test_iseqmod : seen (exec (.iseqmodRv32 0 ⟨20, 44, 48, 1, 2, 0, 0⟩) (wideState 4 4)) 1 20 4 = some (4, 1) ∧
    seen (exec (.iseqmodRv32 0 ⟨20, 44, 48, 1, 2, 0, 0⟩) (wideState 4 5)) 1 20 4 = some (4, 0) := by decide +kernel

/-- The native cells of section 2.9. -/
def nativeState : State :=
  { cells (cells (cells State.reset 4 5 [193, 193]) 4 8 [1, 2, 3, 4, 1, 2, 3, 5]) 4 20 [100, 3, 7, 133057]
    with pc := 12, hintStream := [2, 10] }

/-- Vectors K1 to K7, K9 to K13, K17, on the cells above: the pointer cell holds 100. -/
theorem test_native : ∀ x ∈ ([
    (.load 1 ⟨40, babyBear - 92, 20, 4, 4, 0, 0⟩, 40, 1, 16, 1), (.load 4 ⟨40, babyBear - 88, 20, 4, 4, 0, 0⟩, 40, 4, 16, 0x05030201),
    (.store 1 ⟨5, 3, 20, 4, 4, 0, 0⟩, 103, 1, 16, 193), (.load2 ⟨40, babyBear - 107, 20, 4, 4, 21, 5⟩, 40, 1, 16, 1),
    (.store2 ⟨5, 6, 20, 4, 4, 21, 4⟩, 118, 1, 16, 193), (.shintw ⟨0, 1, 20, 4, 4, 0, 0⟩, 101, 1, 16, 2),
    (.jal ⟨30, 12, 0, 4, 0, 0, 0⟩, 30, 1, 24, 16), (.jal ⟨30, babyBear - 12, 0, 4, 0, 0, 0⟩, 30, 1, 0, 16),
    (.beq 1 ⟨5, 6, 8, 4, 4, 0, 0⟩, 40, 1, 20, 0), (.beq 4 ⟨8, 12, 8, 4, 4, 0, 0⟩, 40, 1, 16, 0),
    (.bne 4 ⟨8, 12, 8, 4, 4, 0, 0⟩, 40, 1, 20, 0), (.bne 1 ⟨5, 6, 8, 4, 4, 0, 0⟩, 40, 1, 16, 0),
    (.castf ⟨40, 23, 0, 4, 4, 0, 0⟩, 40, 4, 16, 133057)] : List (Instr × Nat × Nat × Nat × Nat)),
    seen (exec x.1 nativeState) 4 x.2.1 x.2.2.1 = some x.2.2.2 := by decide +kernel

/-- Vector K15. -/
theorem test_publish : nextOf (exec (.publish ⟨0, 6, 0, 4, 4, 0, 0⟩) nativeState) =
    some { nativeState with pc := 16, publicValues := [(0, 193)] } := by decide +kernel

/-- Vectors K21 to K26. -/
theorem test_field : ∀ x ∈ ([(.addf ⟨5, 2, 3, 4, 0, 0, 0⟩, babyBear - 1, 2), (.subf ⟨5, 2, 1, 4, 0, 0, 0⟩, 0, babyBear - 1),
    (.mulf ⟨5, 2, 3, 4, 4, 0, 0⟩, 10, 200), (.divf ⟨5, 2, 20, 4, 0, 0, 0⟩, 200, 10), (.divf ⟨5, 2, 2, 4, 0, 0, 0⟩, 1, 1006632961),
    (.divf ⟨5, 2, 3, 4, 0, 0, 0⟩, 7, 1342177283)] : List (Instr × Nat × Nat)),
    cellsOf (exec x.1 (cells State.reset 4 2 [x.2.1, 20])) 4 5 1 = some [x.2.2] := by decide +kernel

/-- Vectors K29 to K35. -/
theorem test_extension : ∀ x ∈ ([
    (.fe4add, [1, 2, 3, babyBear - 1, 5, 6, 7, 1], [6, 8, 10, 0]),
    (.fe4sub, [1, 2, 3, 4, 5, 6, 7, 8], [babyBear - 4, babyBear - 4, babyBear - 4, babyBear - 4]),
    (.bbe4mul, [1, 2, 3, 4, 5, 6, 7, 8], [676, 588, 386, 60]), (.bbe4mul, [0, 1, 0, 0, 0, 0, 0, 1], [11, 0, 0, 0]),
    (.bbe4div, [1, 0, 0, 0, 0, 1, 0, 0], [0, 0, 0, 549072524]),
    (.bbe4div, [5, 6, 7, 8, 1, 2, 3, 4], [1563907627, 976033484, 869851947, 1156160680])] :
      List ((Operands → Instr) × List Nat × List Nat)),
    cellsOf (exec (x.1 ⟨8, 12, 16, 4, 4, 0, 0⟩) (cells State.reset 4 12 x.2.1)) 4 8 4 = some x.2.2 := by decide +kernel

/-- Vectors V1 to V16: a word becomes the axVM instruction of its row. -/
theorem test_transpile : ∀ x ∈ ([
    (0x00500093, .addRv32 ⟨4, 0, 5, 1, 0, 0, 0⟩), (0xFFF08093, .addRv32 ⟨4, 4, 16777215, 1, 0, 0, 0⟩),
    (0x00110133, .addRv32 ⟨8, 8, 4, 1, 1, 0, 0⟩), (0x00000013, .phantomNop ⟨0, 0, 0, 0, 0, 0, 0⟩),
    (0xFE009CE3, .bneRv32 ⟨4, 0, babyBear - 8, 1, 1, 0, 0⟩), (0x008000EF, .jalRv32 ⟨4, 0, 8, 1, 0, 1, 0⟩),
    (0x00008067, .jalrRv32 ⟨0, 4, 0, 1, 0, 0, 0⟩), (0x123452B7, .luiRv32 ⟨20, 0, 74565, 1, 0, 1, 0⟩),
    (0x00532223, .storewRv32 ⟨20, 24, 4, 1, 2, 0, 0⟩), (0x00432583, .loadwRv32 ⟨44, 24, 4, 1, 2, 0, 0⟩),
    (0x02A50533, .mulRv32 ⟨40, 40, 40, 1, 0, 0, 0⟩), (0x0000000B, .terminate ⟨0, 0, 0, 0, 0, 0, 0⟩),
    (0x0000300B, .phantomHintInput ⟨0, 0, 0, 0, 0, 0, 0⟩), (0x0000130B, .hintstorewRv32 ⟨0, 24, 0, 1, 2, 0, 0⟩),
    (0x0045200B, .revealRv32 ⟨40, 0, 4, 1, 3, 0, 0⟩), (0x00C5C50B, .keccak256Rv32 ⟨40, 44, 48, 1, 2, 0, 0⟩)] :
      List (Word × Instr)),
    (decodeWord x.1).map (transpile Config.launch) = some (.ok x.2) := by decide +kernel

/-- The host's reading of a table row, and a step that runs it right after reset. -/
theorem test_table_word : decodeTableWord 32 0x00500093 = some (.rvAddi 1 0 5) ∧
    seen (step (State.reset.withFetchWord 32 0x00500093)) 1 4 4 = some (4, 5) := by decide +kernel

/-! ### The premises of the statements are met -/

/-- A running state with two blocks of user memory and pointers to them: `x10 = 256`, `x11 = 288`, `x12 = 320`. -/
def demo : State := { wideState 5 3 with pc := 2 ^ 24 }

/-- What the registers of `demo` hold. -/
def demoRegs (r : BitVec 5) : Word := if r = 10 then 256 else if r = 11 then 288 else if r = 12 then 320 else 0

/-- The launch state with one instruction placed. -/
def loaded (e : RomEntry) : State := { State.reset with prog := [(0, e)] }

/-- A program whose first instruction is good and whose last word, never reached, stands for no instruction. -/
def unreached : State := { State.reset with prog := [(0, .riscv 0x00500093#32), (4, .riscv 0x0000000B#32), (8, .riscv 0x0000002F#32)] }

/-- The same with a word in the last place that the transpiler refuses: a 256-bit branch without its immediate. -/
def untranspilable : State :=
  { State.reset with prog := [(0, .riscv 0x00500093#32), (4, .riscv 0x0000000B#32), (8, .riscv 0x14C5D00B#32)] }

/-- An instruction that completes has a next state. -/
theorem next_of_some {r : Host.Outcome State Fault Refusal} (h : (nextOf r).isSome = true) : ∃ t, r = .next t := by
  cases r with
  | next t => exact ⟨t, rfl⟩
  | fault c => cases h
  | refused c => cases h

/-- The launch configuration is one the spec admits (R12). -/
theorem test_launch_wf : Config.launch.Wf := by decide +kernel

/-- Whether an instruction is ready in a state with the launch configuration. -/
theorem ready {s : State} {op : Op} (hc : s.cfg = Config.launch) (h : opEnabled s.cfg op = true ∧ s.pc + 4 < 2 ^ 30) :
    s.Ready op := ⟨hc ▸ test_launch_wf, h⟩

/-- As `ready`, for several instructions. -/
theorem ready_all {s : State} {l : List Op} (hc : s.cfg = Config.launch)
    (h : (∀ op ∈ l, opEnabled s.cfg op = true) ∧ s.pc + 4 < 2 ^ 30) : ∀ op ∈ l, s.Ready op :=
  fun op m => ready hc ⟨h.1 op m, h.2⟩

theorem test_decode_of_encode_premises :
    (Config.launch.Wf ∧ (Instr.addRv32 ⟨2013265920, 0, 1, 2, 3, 4, 5⟩).encodable Config.launch = true ∧
      ∀ op, (Instr.addRv32 ⟨2013265920, 0, 1, 2, 3, 4, 5⟩).op = some op → op ∈ Config.launch.opcodes.map (·.2)) ∧
    (Instr.rvSwDouble 15 31 31).encodable Config.launch = true ∧
      ∀ op, (Instr.rvSwDouble 15 31 31).op = some op → op ∈ Config.launch.opcodes.map (·.2) :=
  ⟨⟨test_launch_wf, by decide +kernel, fun op h => by cases h; decide +kernel⟩, by decide +kernel, fun op h => by cases h⟩

theorem test_encode_of_decode_premises :
    decodeWord 0x005F8F8B#32 = some (.rvTerminate 5) ∧ decodeWord 0x00829F8B#32 = some (.rvHintstorew 31 8) := by decide +kernel

/-- Words of every clause of `UnassignedWord`, at its boundary values, and neighbours that are no such words. -/
theorem test_reserved_premises :
    (∀ n ∈ ([0x00000000, 0x0000002F, 0x00000007, 0x00000027, 0x00000043, 0x00000053, 0x00000073, 0x0000000F, 0xFFFFFFFF] ++
      [0x04000033, 0x42001033, 0x40001033, 0xFE000033, 0x02001013, 0x02005013, 0x42005013, 0x00003003, 0x00007003, 0x00003023] ++
      [0x00002063, 0x00003063, 0x00001067, 0x0010300B, 0x0200300B, 0x0200400B, 0x2200500B, 0x0000600B, 0x0000700B, 0x0A00002B,
      0x0400102B, 0x0210102B, 0xF2C5952B, 0x0000202B] : List Nat), UnassignedWord (BitVec.ofNat 32 n)) ∧
    (∀ n ∈ ([0x00000033, 0x02000033, 0x40005033, 0x40005013, 0x00005003, 0x00002023, 0x00004063, 0x00000067, 0x0000306F,
      0x0000300B, 0x0000400B, 0x2000500B, 0x0800002B, 0x0000102B, 0x0200102B] : List Nat), ¬ UnassignedWord (BitVec.ofNat 32 n)) ∧
    unreached.status = .running ∧ (8, .riscv 0x0000002F#32) ∈ unreached.prog ∧ unreached.pc = 0 := by
  refine ⟨?_, ?_, ?_⟩ <;> decide +kernel

theorem test_step_premises :
    (loaded (.riscv 0x00500093#32)).status = .running ∧ (loaded (.riscv 0x00500093#32)).rejection = none ∧
    (loaded (.riscv 0x00500093#32)).pc < 2 ^ 30 ∧
    (loaded (.riscv 0x00500093#32)).prog.get? 0 = some (.riscv 0x00500093#32) ∧
    decode (loaded (.riscv 0x00500093#32)).cfg (.riscv 0x00500093#32) = some (.rvAddi 1 0 5) := by decide +kernel

theorem test_step_stop_premises :
    ({ State.reset with status := .terminated 0 } : State).status ≠ .running ∧
    (untranspilable.status = .running ∧ untranspilable.rejection = some .immBranch256NotSupplied) ∧
    (State.reset.status = .running ∧ State.reset.rejection = none ∧ State.reset.prog.get? State.reset.pc = none) ∧
    (2 ^ 30 ≤ ({ State.reset with pc := 2 ^ 30 } : State).pc ∧ ({ State.reset with pc := 2 ^ 30 } : State).rejection = none) ∧
    ((loaded (.tuple ⟨108, ⟨0, 0, 0, 0, 0, 0, 0⟩⟩)).status = .running ∧
      (loaded (.tuple ⟨108, ⟨0, 0, 0, 0, 0, 0, 0⟩⟩)).rejection = none) ∧
    ∀ op, (108 % Config.launch.p, op) ∉ Config.launch.opcodes :=
  ⟨by decide, by decide +kernel, by decide, by decide, by decide, fun _ h =>
    (by decide +kernel : 108 % Config.launch.p ∉ Config.launch.opcodes.map (·.1)) (List.mem_map_of_mem (f := (·.1)) h)⟩

theorem test_loading_premises : State.reset.status = .running ∧ State.reset.rejection = none ∧ State.reset.pc < 2 ^ 30 ∧
    State.reset.cfg = Config.launch ∧ decodeTableWord 32 0x00500093 = some (.rvAddi 1 0 5) ∧
    transpile Config.launch (.rvAddi 1 0 5) = .ok (.addRv32 ⟨4, 0, 5, 1, 0, 0, 0⟩) ∧
    decodeTableWord 256 2 = some (.addRv32 ⟨0, 0, 0, 0, 0, 0, 0⟩) ∧
    transpile Config.launch (.addRv32 ⟨0, 0, 0, 0, 0, 0, 0⟩) = .ok (.addRv32 ⟨0, 0, 0, 0, 0, 0, 0⟩) := by decide +kernel

/-- A state of a run with a program of one RISC-V word, whose step completes: the premises of the statements about every step. -/
theorem test_run_premises :
    (loaded (.riscv 0x00500093#32)).Inv ∧ (loaded (.riscv 0x00500093#32)).RiscvProgram ∧
      ∃ t, step (loaded (.riscv 0x00500093#32)) = .next t := by
  refine ⟨?_, ?_, next_of_some (by decide +kernel)⟩
  · exact ⟨test_launch_wf, by decide, by decide, by decide, by decide, by decide, by decide, by decide, (fun _ h => nomatch h),
      .inl rfl⟩
  · intro x hx
    cases hx with
    | head => exact ⟨_, rfl⟩
    | tail _ h => cases h

theorem test_byte_premises :
    (∀ op, (Instr.addRv32 ⟨8, 4, 4, 1, 1, 0, 0⟩).op = some op → op.cls ≠ .nativeBase ∧ op.cls ≠ .nativeField ∧
      op.cls ≠ .nativeExt ∧ op.cls ≠ .nativeHash) ∧ State.reset.BytePremise ∧
    ∃ t, exec (.addRv32 ⟨8, 4, 4, 1, 1, 0, 0⟩) State.reset = .next t :=
  ⟨fun op h => by cases h; decide, fun _ => ⟨Nat.zero_lt_succ 255, Nat.zero_lt_succ 255⟩, next_of_some (by decide +kernel)⟩

/-- Premises about completed instructions that change the status, a queue or a public value. -/
theorem test_change_premises :
    (∃ t, exec (.terminate ⟨0, 0, 5, 0, 0, 0, 0⟩) State.reset = .next t) ∧
    (nextOf (exec (.terminate ⟨0, 0, 5, 0, 0, 0, 0⟩) State.reset)).map (·.status) = some (.terminated 5) ∧
    (nextOf (exec .rvHintinput { State.reset with inputStream := [[7]] })).map (fun t => (t.inputStream, t.hintStream)) =
      some ([], [1, 7]) ∧
    (nextOf (exec (.publish ⟨0, 6, 0, 4, 4, 0, 0⟩) { nativeState with publicValues := [(3, 9)] })).map
      (fun t => (t.publicValues.get? 0, t.publicValues.get? 3)) = some (some 193, some 9) ∧
    (∀ i ∈ [.phantom ⟨0, 0, 5, 0, 0, 0, 0⟩, .phantomPrintF ⟨0, 0, 1, 0, 0, 0, 0⟩, .phantomCtStart ⟨0, 0, 0, 0, 0, 0, 0⟩,
      .phantomCtEnd ⟨0, 0, 0, 0, 0, 0, 0⟩], (nextOf (exec i State.reset)).map (·.hostLog.length) = some 1) ∧
    (∀ i ∈ [.addmodRv32 0 ⟨40, 44, 48, 1, 2, 0, 0⟩, .rvDivmod 0 10 11 12], (nextOf (exec i demo)).map (·.draws == demo.draws) = some false) :=
  ⟨next_of_some (by decide +kernel), by decide +kernel, by decide +kernel, by decide +kernel, by decide +kernel, by decide +kernel⟩

theorem test_operand_check_premises :
    ((Instr.addRv32 ⟨8, 4, 8, 2, 1, 0, 0⟩).op = some .addRv32 ∧ opEnabled demo.cfg .addRv32 = true ∧
      (Instr.addRv32 ⟨8, 4, 8, 2, 1, 0, 0⟩).encodable demo.cfg = true ∧
      (Instr.addRv32 ⟨8, 4, 8, 2, 1, 0, 0⟩).operandsLegal demo.cfg = false) ∧
    ((Instr.swAddNe 1 ⟨40, 44, 48, 1, 2, 0, 0⟩).op = some (.swAddNe 1) ∧ opEnabled demo.cfg (.swAddNe 1) = false) := by
  decide +kernel

theorem test_transpilation_premises :
    Config.launch.Wf ∧ decodeWord 0x12C5D50B#32 = some (.rvSltu256 10 11 12) ∧
    transpile Config.launch (.rvSltu256 10 11 12) = .ok (.sltu256Rv32 ⟨40, 44, 48, 1, 2, 0, 0⟩) ∧
    ((0x12C5D50B#32 : Word) >>> 25).toNat < 10 ∧ decodeWord 0x20C5D50B#32 = some (.rvMul256 10 11 12) ∧
    transpile Config.launch (.rvMul256 10 11 12) = .ok (.mul256Rv32 ⟨40, 44, 48, 1, 2, 0, 0⟩) ∧
    ((0x20C5D50B#32 : Word) >>> 25).toNat = 16 :=
  ⟨test_launch_wf, by decide +kernel⟩

theorem test_refused_word_premises : demo.cfg.moduli.length ≤ (1#4).toNat ∧ demo.cfg.curves.length ≤ (1#4).toNat ∧
    (10#5 : BitVec 5) ≠ 0 ∧ encodeWord (.rvBeq256 0 11 12) = some 0x14C5D00B#32 ∧
    (∀ off, ((0x14C5D00B#32 : Word), off) ∉ demo.cfg.immBranch256) ∧
    (untranspilable.status = .running ∧ (8, .riscv 0x14C5D00B#32) ∈ untranspilable.prog ∧ untranspilable.pc = 0 ∧
      decodeWord 0x14C5D00B#32 = some (.rvBeq256 0 11 12) ∧
      transpile untranspilable.cfg (.rvBeq256 0 11 12) = .error .immBranch256NotSupplied) ∧
    (loaded (.riscv 0x00500093#32)).status = .running ∧ (loaded (.riscv 0x00500093#32)).rejection = none :=
  ⟨by decide +kernel, by decide +kernel, by decide, by decide +kernel, fun _ h => (nomatch h), by decide +kernel, by decide, by decide +kernel⟩

theorem test_terminate_premises : opEnabled demo.cfg .terminate = true ∧ 4095 = (0xFFF#12).toNat := by decide +kernel

theorem test_phantom_premises : demo.Ready .phantom ∧ ValidSpace demo.cfg 1 ∧ ValidSpace demo.cfg 4 ∧ demo.Fits (2 ^ 29 - 1) 1 ∧
    32 ≤ 32 ∧ demo.inputStream = [] ∧ 0x40008 % 65536 < 9 ∧ 9 ≤ 0x40009 % 65536 :=
  ⟨⟨test_launch_wf, by decide +kernel, by decide +kernel⟩, by decide +kernel⟩

theorem test_hint_input_premises : ({ demo with inputStream := [[1, 2], []] } : State).Ready .phantom ∧
    ({ demo with inputStream := [[1, 2], []] } : State).inputStream = [1, 2] :: [[]] ∧ [1, 2].length < demo.cfg.p :=
  ⟨⟨test_launch_wf, by decide +kernel, by decide +kernel⟩, by decide +kernel⟩

theorem test_alu_premises : (∀ op ∈ ([.addRv32, .subRv32, .xorRv32, .orRv32, .andRv32, .sllRv32, .srlRv32, .sraRv32, .sltRv32,
    .sltuRv32] : List Op), demo.Ready op) ∧ demo.RegPtr (2 ^ 29 - 4) ∧ demo.Holds 44 288 ∧ demo.Holds 48 320 ∧
    AluImmediate 0x007FFF ∧ AluImmediate 0xFF8000 ∧ (0x007FFF#32 : Word) = (BitVec.ofNat 24 0x007FFF).signExtend 32 ∧
    (0xFFFF8000#32 : Word) = (BitVec.ofNat 24 0xFF8000).signExtend 32 := by
  refine ⟨?_, ?_, ?_, ?_, ?_, ?_, ?_, ?_⟩ <;> first
    | exact ready_all rfl (by decide +kernel)
    | exact ready rfl (by decide +kernel)
    | exact test_launch_wf
    | decide +kernel

theorem test_muldiv_premises : (∀ op ∈ ([.mulRv32, .mulhRv32, .mulhsuRv32, .mulhuRv32, .divRv32, .divuRv32, .remRv32, .remuRv32] :
    List Op), demo.Ready op) ∧ demo.RegPtr 0 ∧ demo.Holds 44 288 ∧ demo.Holds 4 0 ∧ (-7 : Int) ≠ 0 := by
  refine ⟨?_, ?_, ?_, ?_, ?_⟩ <;> first
    | exact ready_all rfl (by decide +kernel)
    | exact ready rfl (by decide +kernel)
    | exact test_launch_wf
    | decide +kernel

theorem test_load_store_premises : (∀ op ∈ ([.loadbRv32, .loadhRv32, .loadwRv32, .loadbuRv32, .loadhuRv32, .storebRv32, .storehRv32,
    .storewRv32] : List Op), demo.Ready op) ∧ ValidSpace demo.cfg 2 ∧ ValidSpace demo.cfg 3 ∧ 0xFFFC < 2 ^ 16 ∧ demo.RegPtr 20 ∧
    demo.Holds 44 288 ∧ demo.Holds 48 320 ∧ displaced 288 0xFFFC = 284 ∧ displaced 320 0 = 320 ∧ 284 % 4 = 0 ∧ demo.Fits 284 4 ∧
    (∀ n ∈ [1, 2, 4], demo.HoldsBytes 2 320 n 3 ∧ demo.HoldsBytes 3 284 n 0) := by
  refine ⟨?_, ?_, ?_, ?_, ?_, ?_, ?_, ?_, ?_, ?_, ?_, ?_⟩ <;> first
    | exact ready_all rfl (by decide +kernel)
    | exact ready rfl (by decide +kernel)
    | exact test_launch_wf
    | decide +kernel

theorem test_branch_premises : demo.cfg.Wf ∧ (∀ op ∈ ([.beqRv32, .bneRv32, .bltRv32, .bgeRv32, .bltuRv32, .bgeuRv32] : List Op),
    opEnabled demo.cfg op = true) ∧ BranchOffset demo.cfg.p (2 ^ 24 - 1) ∧ BranchOffset demo.cfg.p (babyBear - 2 ^ 24) ∧
    demo.Holds 44 288 ∧ demo.Holds 48 320 ∧ (0 : Int) = demo.pc + centred demo.cfg.p (babyBear - 2 ^ 24) ∧
    ((2 ^ 24 + 4 : Nat) : Int) = demo.pc + 4 ∧
    (State.reset.pc : Int) + centred State.reset.cfg.p (babyBear - 2 ^ 24) < 0 ∧ State.reset.Holds 4 0 ∧
    2 ^ 30 ≤ (({ demo with pc := 2 ^ 30 - 4 } : State).pc : Int) + centred demo.cfg.p 4 ∧
    (2 ^ 30 ≤ (({ demo with pc := 2 ^ 30 - 5 } : State).pc : Int) + centred demo.cfg.p 5 ∧ 2 ^ 30 - 5 + 4 < 2 ^ 30 ∧
      (State.reset.pc + 4 < 2 ^ 30 ∧ decide ((288 : Word) = 320) = false)) := by
  refine ⟨?_, ?_, ?_, ?_, ?_, ?_, ?_, ?_, ?_, ?_, ?_, ?_⟩ <;> first
    | exact ready_all rfl (by decide +kernel)
    | exact ready rfl (by decide +kernel)
    | exact test_launch_wf
    | decide +kernel

theorem test_jump_premises : demo.cfg.Wf ∧ demo.pc < 2 ^ 30 ∧ opEnabled demo.cfg .jalRv32 = true ∧
    opEnabled demo.cfg .jalrRv32 = true ∧ BranchOffset demo.cfg.p (2 ^ 24 - 1) ∧
    ((2 ^ 25 - 1 : Nat) : Int) = demo.pc + centred demo.cfg.p (2 ^ 24 - 1) ∧ demo.RegPtr 4 ∧ demo.Holds 44 288 ∧
    displaced 288 0xFFFC = 284 ∧ 2 ^ 20 - 1 < 2 ^ 20 ∧ demo.Ready .luiRv32 ∧ demo.Ready .auipcRv32 := by
  refine ⟨?_, ?_, ?_, ?_, ?_, ?_, ?_, ?_, ?_, ?_, ?_, ?_⟩ <;> first
    | exact ready_all rfl (by decide +kernel)
    | exact ready rfl (by decide +kernel)
    | exact test_launch_wf
    | decide +kernel

theorem test_hintstorew_premises : ({ demo with hintStream := [1, 2, 255, 4, 5] } : State).Ready .hintstorewRv32 ∧
    44 = 4 * (11#5).toNat ∧ 0xFFFC = (BitVec.signExtend 16 (0xFFC#12)).toNat ∧ demo.Holds 44 288 ∧ displaced 288 0xFFFC = 284 ∧
    284 % 4 = 0 ∧ demo.Fits 284 4 ∧
    ({ demo with hintStream := [1, 2, 255, 4, 5] } : State).hintStream = 1 :: 2 :: 255 :: 4 :: [5] := by
  refine ⟨?_, ?_, ?_, ?_, ?_, ?_, ?_, ?_⟩ <;> first
    | exact ready_all rfl (by decide +kernel)
    | exact ready rfl (by decide +kernel)
    | exact test_launch_wf
    | decide +kernel

/-- `demo` with a message of five bytes. -/
def hashState : State := reg demo 12 5

theorem test_keccak_premises : hashState.Ready .keccak256Rv32 ∧ ValidSpace hashState.cfg 2 ∧ hashState.PointsTo 40 256 32 4 ∧
    hashState.PointsTo 44 288 5 4 ∧ hashState.Holds 48 (BitVec.ofNat 32 5) ∧ 5 < 2 ^ 31 ∧ [5, 0, 0, 0, 0].length = 5 ∧
    (∀ k (h : k < [5, 0, 0, 0, 0].length), hashState.mem.read ⟨2, 288 + k⟩ = [5, 0, 0, 0, 0][k] ∧ [5, 0, 0, 0, 0][k] < 256) ∧
    40 = 4 * (10#5).toNat := by
  refine ⟨ready rfl (by decide +kernel), ?_, ?_, ?_, ?_, ?_, ?_, ?_, ?_⟩ <;> decide +kernel

/-- A second block of 300 under a configuration that lists a shift amount for it. -/
def listed : State := { wideState 5 300 with cfg := { Config.launch with shamt256 := [(300, 7)] } }

theorem test_int256_premises : (∀ op ∈ ([.add256Rv32, .sub256Rv32, .xor256Rv32, .or256Rv32, .and256Rv32, .sll256Rv32, .srl256Rv32,
    .sra256Rv32, .slt256Rv32, .sltu256Rv32, .mul256Rv32] : List Op), demo.Ready op) ∧ demo.PointsTo 40 256 32 32 ∧
    demo.PointsTo 44 288 32 32 ∧ demo.PointsTo 48 320 32 32 ∧ demo.HoldsBytes 2 288 32 (5#256).toNat ∧
    demo.HoldsBytes 2 320 32 (3#256).toNat ∧ (3#256).toNat < 256 ∧ demo.cfg.shamt256 = [] ∧ 40 = 4 * (10#5).toNat ∧
    44 = 4 * (11#5).toNat ∧ 48 = 4 * (12#5).toNat ∧
    (listed.Ready .mul256Rv32 ∧ listed.HoldsBytes 2 320 32 (300#256).toNat ∧ 256 ≤ (300#256).toNat ∧ listed.cfg.shamt256 ≠ [] ∧
      Op.mul256Rv32 ∉ [.sll256Rv32, .srl256Rv32, .sra256Rv32]) := by
  refine ⟨?_, ?_, ?_, ?_, ?_, ?_, ?_, ?_, ?_, ?_, ?_, ?_⟩ <;> first
    | exact ready_all rfl (by decide +kernel)
    | exact ready rfl (by decide +kernel)
    | exact test_launch_wf
    | decide +kernel

/-- `demo` with the immediate of one branch word supplied. -/
def supplied : State := { demo with cfg := { Config.launch with immBranch256 := [(0x14C5D00B#32, -(2 ^ 24))] } }

theorem test_branch256_premises : supplied.cfg.Wf ∧ (∀ op ∈ ([.beq256Rv32, .bne256Rv32, .blt256Rv32, .bge256Rv32, .bltu256Rv32,
    .bgeu256Rv32] : List Op), opEnabled supplied.cfg op = true) ∧ encodeWord (.rvBeq256 0 11 12) = some 0x14C5D00B#32 ∧
    immBranch256 supplied.cfg 0x14C5D00B#32 = some (-(2 ^ 24)) ∧ centred supplied.cfg.p (babyBear - 2 ^ 24) = -(2 ^ 24) ∧
    supplied.PointsTo 44 288 32 32 ∧ supplied.PointsTo 48 320 32 32 ∧ supplied.HoldsBytes 2 288 32 (5#256).toNat ∧
    supplied.HoldsBytes 2 320 32 (3#256).toNat ∧ (0 : Int) = supplied.pc + -(2 ^ 24) ∧
    ((2 ^ 24 + 4 : Nat) : Int) = supplied.pc + 4 := by decide +kernel

theorem test_modular_premises : (∀ op ∈ ([.addmodRv32 0, .submodRv32 0, .mulmodRv32 0, .divmodRv32 0, .iseqmodRv32 0] : List Op),
    demo.Ready op) ∧ demo.cfg.moduli[0]? = some ⟨65521, 2, 2⟩ ∧ demo.PointsTo 40 256 2 2 ∧ demo.PointsTo 44 288 2 2 ∧
    demo.PointsTo 48 320 2 2 ∧ demo.HoldsBytes 2 288 2 5 ∧ demo.HoldsBytes 2 320 2 3 ∧ Nat.gcd 3 65521 = 1 ∧ demo.RegPtr 20 ∧
    (0#4).toNat = 0 ∧ demo.Holds 40 256 := by
  refine ⟨?_, ?_, ?_, ?_, ?_, ?_, ?_, ?_, ?_, ?_, ?_⟩ <;> first
    | exact ready_all rfl (by decide +kernel)
    | exact ready rfl (by decide +kernel)
    | exact test_launch_wf
    | decide +kernel

/-- A dividend that is not reduced, and a divisor that shares a factor with the modulus: the modulus itself. -/
theorem test_modular_stop_premises : (wideState 65521 65521).HoldsBytes 2 288 2 65521 ∧ (wideState 65521 65521).HoldsBytes 2 320 2 65521 ∧
    (wideState 65521 65521).PointsTo 48 320 2 2 ∧ (wideState 65521 65521).PointsTo 44 288 2 2 ∧ 65521 ≤ 65521 ∧
    (wideState 65521 65521).Ready (.divmodRv32 0) ∧ (wideState 65521 65521).Holds 40 256 ∧ Nat.gcd 65521 65521 ≠ 1 := by
  refine ⟨?_, ?_, ?_, ?_, ?_, ?_, ?_, ?_⟩ <;> first
    | exact ready_all rfl (by decide +kernel)
    | exact ready rfl (by decide +kernel)
    | exact test_launch_wf
    | decide +kernel

/-- The curve of section 2.8 with the points `(1, 5)` and `(2, 7)` in memory. -/
theorem test_curve_premises : (wideState 0x50001 0x70002).Ready (.swAddNe 0) ∧ (wideState 0x50001 0x70002).Ready (.swDouble 0) ∧
    State.reset.cfg.curves[0]? = some ⟨17, 7, 2, 2⟩ ∧ Nat.Prime 17 ∧ (wideState 0x50001 0x70002).PointsTo 40 256 4 2 ∧
    (wideState 0x50001 0x70002).PointsTo 44 288 4 2 ∧ (wideState 0x50001 0x70002).PointsTo 48 320 4 2 ∧
    (wideState 0x50001 0x70002).HoldsBytes 2 288 2 1 ∧ (wideState 0x50001 0x70002).HoldsBytes 2 290 2 5 ∧
    (wideState 0x50001 0x70002).HoldsBytes 2 320 2 2 ∧ (wideState 0x50001 0x70002).HoldsBytes 2 322 2 7 ∧
    ¬ (1 : Int) ≡ 2 [ZMOD 17] ∧ OnCurve ⟨17, 7, 2, 2⟩ 1 5 ∧ OnCurve ⟨17, 7, 2, 2⟩ 2 7 ∧ ¬ 2 * (5 : Int) ≡ 0 [ZMOD 17] := by
  refine ⟨?_, ?_, ?_, ?_, ?_, ?_, ?_, ?_, ?_, ?_, ?_, ?_, ?_, ?_, ?_⟩ <;> first
    | exact ready_all rfl (by decide +kernel)
    | exact ready rfl (by decide +kernel)
    | exact test_launch_wf
    | decide +kernel

/-- Equal `x` in the field, a point off the curve, and a point of order 2. -/
theorem test_curve_stop_premises : (∀ x ∈ ([(wideState 0x50001 0x70012, 1, 5, 18), (wideState 0x60001 0x70002, 1, 6, 2),
    (wideState 3 0x70002, 3, 0, 2)] : List (State × Nat × Nat × Nat)), x.1.Holds 40 256 ∧ x.1.PointsTo 44 288 4 2 ∧
      x.1.PointsTo 48 320 4 2 ∧ x.1.HoldsBytes 2 288 2 x.2.1 ∧ x.1.HoldsBytes 2 290 2 x.2.2.1 ∧ x.1.HoldsBytes 2 320 2 x.2.2.2 ∧
      x.1.HoldsBytes 2 322 2 7 ∧ opEnabled x.1.cfg (.swAddNe 0) = true ∧ opEnabled x.1.cfg (.swDouble 0) = true ∧
      x.1.cfg.curves[0]? = some ⟨17, 7, 2, 2⟩) ∧
    (1 : Int) ≡ 18 [ZMOD 17] ∧ ¬ (1 : Int) ≡ 2 [ZMOD 17] ∧ ¬ (OnCurve ⟨17, 7, 2, 2⟩ 1 6 ∧ OnCurve ⟨17, 7, 2, 2⟩ 2 7) ∧
    ¬ OnCurve ⟨17, 7, 2, 2⟩ 1 6 ∧ OnCurve ⟨17, 7, 2, 2⟩ 3 0 ∧ 2 * (0 : Int) ≡ 0 [ZMOD 17] := by decide +kernel

theorem test_riscv_premises : demo.Registers demoRegs ∧
    registerResult demo.cfg.divRemSign demo.pc demoRegs (.rvAdd 5 11 12) = some (.addRv32, 5, 608) ∧
    registerResult demo.cfg.divRemSign demo.pc demoRegs (.rvDiv 0 11 0) = some (.divRv32, 0, 0xFFFFFFFF) ∧
    demo.Ready .addRv32 ∧ demo.Ready .phantom ∧ (demoRegs 12 + BitVec.signExtend 32 (0xFFC#12)).toInt = 316 ∧
    (demoRegs 11 + BitVec.signExtend 32 (0x000#12)).toInt = 288 ∧ (∀ n ∈ [1, 2, 4], demo.HoldsBytes 2 288 n 5 ∧ demo.Fits 288 n ∧
      288 % n = 0) := by
  refine ⟨?_, ?_, ?_, ?_, ?_, ?_, ?_, ?_⟩ <;> first
    | exact ready_all rfl (by decide +kernel)
    | exact ready rfl (by decide +kernel)
    | exact test_launch_wf
    | decide +kernel

theorem test_riscv_control_premises :
    ((2 ^ 24 - 4096 : Nat) : Int) = demo.pc + 2 * (0x800#12).toInt ∧ ((2 ^ 24 + 4094 : Nat) : Int) = demo.pc + 2 * (0x7FF#12).toInt ∧
    ((2 ^ 24 - 2 ^ 20 : Nat) : Int) = demo.pc + 2 * (0x80000#20).toInt ∧
    (demoRegs 12 + BitVec.signExtend 32 (0xFFC#12)).toInt = 316 ∧ (∀ op ∈ ([.loadbRv32, .loadhRv32, .loadwRv32, .loadbuRv32, .loadhuRv32,
      .storebRv32, .storehRv32, .storewRv32] : List Op), demo.Ready op) := by
  refine ⟨?_, ?_, ?_, ?_, ?_⟩ <;> first
    | exact ready_all rfl (by decide +kernel)
    | exact ready rfl (by decide +kernel)
    | exact test_launch_wf
    | decide +kernel

theorem test_native_premises : ValidSpace nativeState.cfg 4 ∧ nativeState.Fits 20 1 ∧ nativeState.Fits 21 1 ∧
    12 = (nativeState.mem.read ⟨4, 20⟩ + (babyBear - 88)) % nativeState.cfg.p ∧ 12 % 4 = 0 ∧ nativeState.Fits 12 4 ∧ 40 % 4 = 0 ∧
    nativeState.Fits 40 4 ∧
    8 = (nativeState.mem.read ⟨4, 20⟩ + nativeState.mem.read ⟨4, 21⟩ * 5 + (babyBear - 107)) % nativeState.cfg.p ∧
    (∀ op ∈ ([.load 4, .store 4, .load2, .store2, .shintw, .publish, .castf, .addf, .subf, .mulf, .divf, .fe4add, .fe4sub, .bbe4mul,
      .bbe4div, .compressPoseidon2, .permPoseidon2] : List Op), nativeState.Ready op) ∧
    nativeState.hintStream = 2 :: [10] ∧ State.reset.hintStream = [] ∧ State.reset.Ready .shintw := by
  refine ⟨?_, ?_, ?_, ?_, ?_, ?_, ?_, ?_, ?_, ?_, ?_, ?_, ?_⟩ <;> first
    | exact ready_all rfl (by decide +kernel)
    | exact ready rfl (by decide +kernel)
    | exact test_launch_wf
    | decide +kernel

/-- `nativeState` under a configuration that takes any field element as a native offset. -/
def unbounded : State := { nativeState with cfg := { Config.launch with nativeOffsets := .any } }

/-- Both ends of the range of D30, the first offsets outside it, and the largest jump where any offset is one. -/
theorem test_native_control_premises : nativeState.cfg.Wf ∧ unbounded.cfg.Wf ∧
    (∀ s ∈ [nativeState, unbounded], opEnabled s.cfg .jal = true ∧ s.pc < 2 ^ 30 ∧ s.Fits (2 ^ 29 - 1) 1 ∧
      opEnabled s.cfg (.beq 4) = true ∧ opEnabled s.cfg (.bne 1) = true) ∧
    (NativeOffset nativeState.cfg (2 ^ 24 - 1) ∧ (nativeState.pc + (2 ^ 24 - 1)) % nativeState.cfg.p < 2 ^ 30) ∧
    (NativeOffset nativeState.cfg (babyBear - 2 ^ 24) ∧ 2 ^ 30 ≤ (nativeState.pc + (babyBear - 2 ^ 24)) % nativeState.cfg.p) ∧
    (¬ NativeOffset nativeState.cfg (2 ^ 24) ∧ ¬ NativeOffset nativeState.cfg (babyBear - 2 ^ 24 - 1)) ∧
    (NativeOffset unbounded.cfg (2 ^ 30 - 13) ∧ (unbounded.pc + (2 ^ 30 - 13)) % unbounded.cfg.p = 2 ^ 30 - 1) ∧
    (NativeOffset unbounded.cfg (2 ^ 30 - 12) ∧ 2 ^ 30 ≤ (unbounded.pc + (2 ^ 30 - 12)) % unbounded.cfg.p) ∧
    BranchOffset nativeState.cfg.p (babyBear - 12) ∧
    (∀ k < 1, nativeState.mem.read ⟨4, 5 + k⟩ = nativeState.mem.read ⟨4, 6 + k⟩) ∧
    ¬ (∀ k < 4, nativeState.mem.read ⟨4, 8 + k⟩ = nativeState.mem.read ⟨4, 12 + k⟩) ∧
    0 = (nativeState.pc + (babyBear - 12)) % nativeState.cfg.p ∧ 16 = (nativeState.pc + 4) % nativeState.cfg.p := by
  refine ⟨test_launch_wf, ?_, ?_, ?_, ?_, ?_, ?_, ?_, ?_, ?_, ?_, ?_, ?_⟩ <;> decide +kernel

/-- Indices 15 and 16 on either side of the number of public values, and index 3, which is fixed to 9. -/
def publicState : State := { cells State.reset 4 0 [15, 16, 3, 9, 8] with publicValues := [(3, 9)] }

theorem test_publish_premises : publicState.Ready .publish ∧ ValidSpace publicState.cfg 4 ∧ publicState.Fits 0 1 ∧ publicState.Fits 4 1 ∧
    publicState.mem.read ⟨4, 0⟩ = 15 ∧ 15 < publicState.cfg.numPublicValues ∧ publicState.publicValues.get? 15 = none ∧
    publicState.mem.read ⟨4, 1⟩ = 16 ∧ publicState.cfg.numPublicValues ≤ 16 ∧ publicState.mem.read ⟨4, 2⟩ = 3 ∧
    publicState.publicValues.get? 3 = some 9 ∧ publicState.mem.read ⟨4, 3⟩ = 9 ∧ publicState.mem.read ⟨4, 4⟩ = 8 ∧ 9 ≠ 8 := by
  refine ⟨?_, ?_, ?_, ?_, ?_, ?_, ?_, ?_, ?_, ?_, ?_, ?_, ?_, ?_⟩ <;> first
    | exact ready_all rfl (by decide +kernel)
    | exact ready rfl (by decide +kernel)
    | exact test_launch_wf
    | decide +kernel

theorem test_castf_premises : (cells State.reset 4 6 [2 ^ 30 - 1, 2 ^ 30]).Ready .castf ∧ ValidSpace State.reset.cfg 4 ∧
    (cells State.reset 4 6 [2 ^ 30 - 1, 2 ^ 30]).mem.read ⟨4, 6⟩ = 2 ^ 30 - 1 ∧
    (cells State.reset 4 6 [2 ^ 30 - 1, 2 ^ 30]).mem.read ⟨4, 7⟩ = 2 ^ 30 ∧ State.reset.Fits 7 1 ∧ State.reset.Fits 8 4 ∧ 8 % 4 = 0 := by
  refine ⟨?_, ?_, ?_, ?_, ?_, ?_, ?_⟩ <;> first
    | exact ready_all rfl (by decide +kernel)
    | exact ready rfl (by decide +kernel)
    | exact test_launch_wf
    | decide +kernel

theorem test_field_premises : ValidSpace nativeState.cfg 4 ∧ nativeState.Fits 5 1 ∧ nativeState.mem.read ⟨4, 5⟩ = 193 ∧
    nativeState.mem.read ⟨4, 6⟩ = 193 ∧ nativeState.mem.read ⟨4, 7⟩ = 0 ∧ nativeState.Fits 7 1 ∧ nativeState.cfg.p.Prime ∧
    0 < 193 ∧ 193 < nativeState.cfg.p :=
  ⟨by decide +kernel, by decide +kernel, by decide +kernel, by decide +kernel, by decide +kernel, by decide +kernel,
    babyBear_prime, by decide, by decide +kernel⟩

theorem test_extension_premises : 40 % 4 = 0 ∧ nativeState.Fits 40 4 ∧ nativeState.mem.readCells 4 8 4 = [1, 2, 3, 4] ∧
    nativeState.mem.readCells 4 12 4 = [1, 2, 3, 5] ∧ nativeState.mem.readCells 4 16 4 = [0, 0, 0, 0] ∧ nativeState.Fits 16 4 ∧
    5 < babyBear ∧ ¬ (1 = 0 ∧ 2 = 0 ∧ 3 = 0 ∧ 5 = 0) := by decide +kernel

theorem test_poseidon_premises : (cells State.reset 4 1 [64, 80, 96]).mem.read ⟨4, 1⟩ = 64 ∧
    (cells State.reset 4 1 [64, 80, 96]).mem.read ⟨4, 2⟩ = 80 ∧ (cells State.reset 4 1 [64, 80, 96]).mem.read ⟨4, 3⟩ = 96 ∧
    64 % 8 = 0 ∧ 80 % 8 = 0 ∧ 96 % 8 = 0 ∧ State.reset.Fits 64 16 ∧ State.reset.Fits 80 16 ∧ State.reset.Fits 96 8 ∧
    (cells State.reset 4 1 [64, 80, 96]).Ready .permPoseidon2 ∧ (cells State.reset 4 1 [64, 80, 96]).Ready .compressPoseidon2 := by
  refine ⟨?_, ?_, ?_, ?_, ?_, ?_, ?_, ?_, ?_, ?_, ?_⟩ <;> first
    | exact ready_all rfl (by decide +kernel)
    | exact ready rfl (by decide +kernel)
    | exact test_launch_wf
    | decide +kernel

theorem test_block_premises : ¬ ValidSpace State.reset.cfg 0 ∧ ¬ ValidSpace State.reset.cfg 5 ∧ ValidSpace State.reset.cfg 4 ∧
    ¬ State.reset.Fits (2 ^ 29 - 3) 4 ∧ State.reset.Fits (2 ^ 29 - 4) 4 ∧ State.reset.Fits 6 4 ∧ 6 % 4 ≠ 0 ∧ 3 ∉ [1, 2, 4, 8, 16, 32, 64] ∧
    [7, 8, 9, 10].length ∈ [1, 2, 4, 8, 16, 32, 64] ∧ (2 ^ 29 - 4) % 4 = 0 ∧ demo.Holds 44 288 ∧ demo.cfg.Wf ∧
    (cells State.reset 1 16 [0, 1, 0, 256]).RegPtr 16 ∧ (∃ k < 4, 256 ≤ (cells State.reset 1 16 [0, 1, 0, 256]).mem.read ⟨1, 16 + k⟩) := by
  refine ⟨?_, ?_, ?_, ?_, ?_, ?_, ?_, ?_, ?_, ?_, ?_, ?_, ?_, ?_⟩ <;> first
    | exact ready_all rfl (by decide +kernel)
    | exact ready rfl (by decide +kernel)
    | exact test_launch_wf
    | decide +kernel

end Sys2Proof.Tests
end

section
/-!
PROOF. What an instruction that has a successor did: one inversion lemma for all 168 instructions, from those of the skeletons.
-/

namespace Sys2Proof.Machine

/-! ### What a completed instruction did -/

/-- The classes of the native kernel, the only ones whose instructions write cells that need not be bytes (R60, R647). -/
def nativeClass : OpClass → Bool
  | .nativeBase | .nativeField | .nativeExt | .nativeHash => true
  | _ => false

/-- The instruction belongs to the native kernel; a RISC-V word does not. -/
def isNative (i : Instr) : Bool :=
  match i.op with
  | some op => nativeClass op.cls
  | none => false

/-- The exit code of the two instructions that end a run (R180, R529). -/
def exitCode? : Instr → Option Nat
  | .terminate o => some o.c
  | .rvTerminate code => some code.toNat
  | _ => none

/-- What a phantom sub-instruction did before the default step (R185 to R195). -/
inductive PhantomDone (s : State) : State → Prop
  | nothing : PhantomDone s s
  | logged (ev : HostEvent) (h : ∀ v, ev = .printed v → ∃ k, v = s.mem.read k) : PhantomDone s (s.log ev)
  | hintTaken {hint : List Nat} {rest : List (List Nat)} (h : s.inputStream = hint :: rest) :
      PhantomDone s { s with inputStream := rest, hintStream := (hint.length % s.cfg.p) :: hint }
  | hintBits (v n : Nat) : PhantomDone s { s with hintStream := lowBits v n }

/-- What an instruction that has a successor did: one constructor for each kind of effect. -/
inductive Effect (i : Instr) (s : State) : State → Prop
  | plain {n m : Nat} {t : State} (h : Plain (isNative i) n m s t) : Effect i s t
  | ended {code : Nat} (h : exitCode? i = some code) : Effect i s { s with status := .terminated code }
  | phantom {u : State} (h : PhantomDone s u) (hpc : s.StepOk) : Effect i s { u with pc := fadd s.cfg.p s.pc 4 }
  | published {k : Nat} (l : Loc) (hk : k < s.cfg.numPublicValues) (hnone : s.publicValues.get? k = none) (hpc : s.StepOk) :
      Effect i s { s with publicValues := s.publicValues.insert k (s.mem.read l), pc := fadd s.cfg.p s.pc 4 }

/-! ### System instructions -/

theorem phantomEffect_done {s u : State} {disc a b c : Nat} (h : phantomEffect disc s a b c = .ok u) : PhantomDone s u := by
  unfold phantomEffect at h
  split at h
  · obtain ⟨-, rfl⟩ := phantomNopEffect_ok.1 h; exact .nothing
  · exact absurd h phantomDebugPanicEffect_ok
  · obtain ⟨-, -, rfl⟩ := phantomPrintFEffect_ok.1 h; exact .logged _ fun _ hv => by cases hv; exact ⟨_, rfl⟩
  · obtain ⟨-, _, _, hs, rfl⟩ := phantomHintInputEffect_ok.1 h; exact .hintTaken hs
  · obtain ⟨-, -, rfl⟩ := phantomHintBitsEffect_ok.1 h; exact .hintBits _ _
  · obtain ⟨-, rfl⟩ := phantomCtStartEffect_ok.1 h; exact .logged _ fun _ hv => nomatch hv
  · obtain ⟨-, rfl⟩ := phantomCtEndEffect_ok.1 h; exact .logged _ fun _ hv => nomatch hv
  · exact absurd h phantomTodoEffect_ok
  · exact absurd h phantomTodoEffect_ok
  · exact absurd h phantomUnknownEffect_ok

theorem PhantomDone.cfg_eq {s u : State} (h : PhantomDone s u) : u.cfg = s.cfg := by cases h <;> rfl

theorem PhantomDone.pc_eq {s u : State} (h : PhantomDone s u) : u.pc = s.pc := by cases h <;> rfl

/-- `PHANTOM` runs the sub-instruction of its discriminant; so do the nine constructors, each of which fixes its discriminant. -/
theorem runPhantom_effect {i : Instr} {disc : Nat} {q : PhantomOperands} {s t : State}
    (h : runPhantom (phantomEffect disc) q s = .next t) : Effect i s t := by
  obtain ⟨-, -, u, hu, hpc, rfl⟩ := runPhantom_next.1 h
  have hd := phantomEffect_done hu
  have hc : fadd u.cfg.p u.pc 4 = fadd s.cfg.p s.pc 4 := by rw [hd.cfg_eq, hd.pc_eq]
  rw [State.StepOk, hc] at hpc
  rw [hc]
  exact .phantom hd hpc

theorem execTerminate_effect {i : Instr} {o : Operands} {s t : State} (hi : exitCode? i = some o.c)
    (h : execTerminate o s = .next t) : Effect i s t := by
  obtain ⟨-, -, rfl⟩ := execTerminate_next.1 h
  exact .ended hi

/-! ### The native instructions whose values need a fact about the field -/

theorem fieldAdd_known {s : State} (x y v : Nat) (h : fieldAdd s.cfg.p x y = .ok v) : s.Known v := by
  cases h; exact known_of_mod _

theorem fieldSub_known {s : State} (x y v : Nat) (h : fieldSub s.cfg.p x y = .ok v) : s.Known v := by
  cases h; exact known_of_mod _

theorem fieldMul_known {s : State} (x y v : Nat) (h : fieldMul s.cfg.p x y = .ok v) : s.Known v := by
  cases h; exact known_of_mod _

theorem fieldDiv_ok {p x y v : Nat} : fieldDiv p x y = .ok v ↔ y ≠ 0 ∧ v = fdiv p x y := by
  simp only [fieldDiv, bind_ok, require_ok, pure_ok]
  exact ⟨fun ⟨_, h, h'⟩ => ⟨h, h'.symm⟩, fun ⟨h, h'⟩ => ⟨(), h, h'.symm⟩⟩

theorem fieldDiv_known {s : State} (x y v : Nat) (h : fieldDiv s.cfg.p x y = .ok v) : s.Known v := by
  obtain ⟨-, rfl⟩ := fieldDiv_ok.1 h
  exact known_of_mod _

theorem quarticDiv_ok {p : Nat} {x y z : Ext} : quarticDiv p x y = .ok z ↔ y ≠ ⟨0, 0, 0, 0⟩ ∧ z = extDiv p x y := by
  simp only [quarticDiv, bind_ok, require_ok, pure_ok]
  exact ⟨fun ⟨_, h, h'⟩ => ⟨h, h'.symm⟩, fun ⟨h, h'⟩ => ⟨(), h, h'.symm⟩⟩

/-- An element whose four coefficients are reduced modulo `p` may be written. -/
theorem known_of_ext {s : State} {k0 k1 k2 k3 : Nat} :
    ∀ v ∈ Ext.toList ⟨k0 % s.cfg.p, k1 % s.cfg.p, k2 % s.cfg.p, k3 % s.cfg.p⟩, s.Known v := by
  simp only [Ext.toList, List.mem_cons, List.not_mem_nil, or_false]
  rintro v (rfl | rfl | rfl | rfl) <;> exact known_of_mod _

theorem quarticAdd_known {s : State} (x y z : Ext) (h : quarticAdd s.cfg.p x y = .ok z) : ∀ v ∈ z.toList, s.Known v := by
  cases h; exact known_of_ext

theorem quarticSub_known {s : State} (x y z : Ext) (h : quarticSub s.cfg.p x y = .ok z) : ∀ v ∈ z.toList, s.Known v := by
  cases h; exact known_of_ext

theorem quarticMul_known {s : State} (x y z : Ext) (h : quarticMul s.cfg.p x y = .ok z) : ∀ v ∈ z.toList, s.Known v := by
  cases h; exact known_of_ext

theorem quarticDiv_known {s : State} (x y z : Ext) (h : quarticDiv s.cfg.p x y = .ok z) : ∀ v ∈ z.toList, s.Known v := by
  obtain ⟨-, rfl⟩ := quarticDiv_ok.1 h
  exact known_of_ext

/-- `PUBLISH` fixes a public value that is not set, or leaves all as they are. -/
theorem execPublish_effect {o : Operands} {s t : State} (h : execPublish o s = .next t) : Effect (.publish o) s t := by
  obtain ⟨-, -, -, -, hk, hpc, u, hu, rfl⟩ := execPublish_next.1 h
  rcases publish_ok.1 hu with ⟨hnone, rfl⟩ | ⟨-, rfl⟩
  · exact .published _ hk hnone hpc
  · exact .plain (n := 0) (m := 0) ⟨rfl, fun _ => hpc, .inl rfl⟩

/-! ### RISC-V words -/

section words

variable {s t : State} {n m : Nat}

/-- The `NOP` of a word that writes `x0` takes the default step. -/
theorem execPhantomNop_plain {q : PhantomOperands} (h : execPhantomNop q s = .next t) : Plain false 0 0 s t := by
  obtain ⟨-, -, u, hu, hpc, rfl⟩ := runPhantom_next.1 h
  obtain ⟨-, rfl⟩ := phantomNopEffect_ok.1 hu
  exact ⟨rfl, fun _ => hpc, .inl rfl⟩

theorem runUnlessX0_plain {rd : BitVec 5} {run : State → Host.Outcome State Fault Refusal}
    (hrun : run s = .next t → Plain false 0 0 s t) (h : runUnlessX0 rd run s = .next t) : Plain false 0 0 s t := by
  unfold runUnlessX0 at h
  split_ifs at h
  · exact execPhantomNop_plain h
  · exact hrun h

theorem runBranch256_plain {w : Word} {run : Int → State → Host.Outcome State Fault Refusal}
    (hrun : ∀ off, run off s = .next t → Plain false n m s t) (h : runBranch256 w run s = .next t) : Plain false n m s t := by
  unfold runBranch256 at h
  split at h
  · exact hrun _ h
  · cases h

theorem runModulus_plain {idx : BitVec 4} {run : Nat → State → Host.Outcome State Fault Refusal}
    (hrun : ∀ k, run k s = .next t → Plain false n m s t) (h : runModulus idx run s = .next t) : Plain false n m s t := by
  unfold runModulus at h
  split_ifs at h
  exact hrun _ h

theorem runCurve_plain {idx : BitVec 4} {run : Nat → State → Host.Outcome State Fault Refusal}
    (hrun : ∀ k, run k s = .next t → Plain false n m s t) (h : runCurve idx run s = .next t) : Plain false n m s t := by
  unfold runCurve at h
  split_ifs at h
  exact hrun _ h

theorem execRvIseqmod_plain {idx : BitVec 4} {rd rs1 rs2 : BitVec 5} (h : execRvIseqmod idx rd rs1 rs2 s = .next t) :
    Plain false 0 0 s t := by
  unfold execRvIseqmod at h
  split_ifs at h
  exact runModulus_plain (fun _ => execIseqmod_plain) h

end words

/-! ### Every instruction -/

/-- What each of the 168 instructions did, where it has a successor. -/
theorem exec_effect {i : Instr} {s t : State} (h : exec i s = .next t) : Effect i s t := by
  cases i with
  | terminate o => exact execTerminate_effect rfl h
  | rvTerminate code => exact execTerminate_effect rfl h
  | phantom o => exact runPhantom_effect h
  | phantomNop q => exact runPhantom_effect (disc := 0) h
  | phantomDebugPanic q => exact runPhantom_effect (disc := 1) h
  | phantomPrintF q => exact runPhantom_effect (disc := 2) h
  | phantomHintInput q => exact runPhantom_effect (disc := 3) h
  | rvHintinput => exact runPhantom_effect (disc := 3) h
  | phantomHintBits q => exact runPhantom_effect (disc := 4) h
  | phantomCtStart q => exact runPhantom_effect (disc := 5) h
  | phantomCtEnd q => exact runPhantom_effect (disc := 6) h
  | phantomHintFinalExpBn254 q => exact runPhantom_effect (disc := 7) h
  | phantomHintFinalExpBls12381 q => exact runPhantom_effect (disc := 8) h
  | addRv32 | subRv32 | xorRv32 | orRv32 | andRv32 | sllRv32 | srlRv32 | sraRv32 | sltRv32 | sltuRv32 =>
    exact .plain (execAlu_plain h)
  | loadbRv32 | loadhRv32 | loadwRv32 | loadbuRv32 | loadhuRv32 => exact .plain (execLoad_plain h)
  | storebRv32 | storehRv32 | storewRv32 | rvSb | rvSh | rvSw => exact .plain (execStore_plain h)
  | beqRv32 | bneRv32 | bltRv32 | bgeRv32 | bltuRv32 | bgeuRv32 | rvBeq | rvBne | rvBlt | rvBge | rvBltu | rvBgeu =>
    exact .plain (execBranch_plain h)
  | jalRv32 | rvJal => exact .plain (execJalRv32_plain h)
  | jalrRv32 | rvJalr => exact .plain (execJalrRv32_plain h)
  | luiRv32 => exact .plain (execLui_plain h)
  | auipcRv32 => exact .plain (execAuipc_plain h)
  | mulRv32 | mulhRv32 | mulhsuRv32 | mulhuRv32 | divRv32 | divuRv32 | remRv32 | remuRv32 => exact .plain (execMulDiv_plain h)
  | hintstorewRv32 | rvHintstorew => exact .plain (execHintstorew_plain h)
  | revealRv32 | rvReveal => exact .plain (execReveal_plain h)
  | keccak256Rv32 | rvKeccak256 => exact .plain (execKeccak_plain h)
  | add256Rv32 | sub256Rv32 | xor256Rv32 | or256Rv32 | and256Rv32 | sll256Rv32 | srl256Rv32 | sra256Rv32 | slt256Rv32
  | sltu256Rv32 | mul256Rv32 | rvAdd256 | rvSub256 | rvXor256 | rvOr256 | rvAnd256 | rvSll256 | rvSrl256 | rvSra256 | rvSlt256
  | rvSltu256 | rvMul256 => exact .plain (execInt256_plain h)
  | beq256Rv32 | bne256Rv32 | blt256Rv32 | bge256Rv32 | bltu256Rv32 | bgeu256Rv32 => exact .plain (execBranch256_plain h)
  | addmodRv32 | submodRv32 | mulmodRv32 | divmodRv32 => exact .plain (execModular_plain h)
  | iseqmodRv32 => exact .plain (execIseqmod_plain h)
  | swAddNe => exact .plain (execSwAddNe_plain h)
  | swDouble => exact .plain (execSwDouble_plain h)
  | load => exact .plain (execLoadNative_plain h)
  | store => exact .plain (execStoreNative_plain h)
  | load2 => exact .plain (execLoad2_plain h)
  | store2 => exact .plain (execStore2_plain h)
  | shintw => exact .plain (execShintw_plain h)
  | jal => exact .plain (execJal_plain h)
  | beq | bne => exact .plain (execNativeBranch_plain h)
  | publish => exact execPublish_effect h
  | castf => exact .plain (execCastf_plain h)
  | addf => exact .plain (execField_plain fieldAdd_known h)
  | subf => exact .plain (execField_plain fieldSub_known h)
  | mulf => exact .plain (execField_plain fieldMul_known h)
  | divf => exact .plain (execField_plain fieldDiv_known h)
  | fe4add => exact .plain (execExt_plain quarticAdd_known h)
  | fe4sub => exact .plain (execExt_plain quarticSub_known h)
  | bbe4mul => exact .plain (execExt_plain quarticMul_known h)
  | bbe4div => exact .plain (execExt_plain quarticDiv_known h)
  | compressPoseidon2 => exact .plain (execCompress_plain h)
  | permPoseidon2 => exact .plain (execPerm_plain h)
  | rvAdd | rvSub | rvXor | rvOr | rvAnd | rvSll | rvSrl | rvSra | rvSlt | rvSltu | rvAddi | rvXori | rvOri | rvAndi | rvSlli
  | rvSrli | rvSrai | rvSlti | rvSltiu => exact .plain (runUnlessX0_plain execAlu_plain h)
  | rvLb | rvLh | rvLw | rvLbu | rvLhu => exact .plain (runUnlessX0_plain execLoad_plain h)
  | rvLui => exact .plain (runUnlessX0_plain execLui_plain h)
  | rvAuipc => exact .plain (runUnlessX0_plain execAuipc_plain h)
  | rvMul | rvMulh | rvMulhsu | rvMulhu | rvDiv | rvDivu | rvRem | rvRemu =>
    exact .plain (runUnlessX0_plain execMulDiv_plain h)
  | rvBeq256 | rvBne256 | rvBlt256 | rvBge256 | rvBltu256 | rvBgeu256 =>
    exact .plain (runBranch256_plain (fun _ => execBranch256_plain) h)
  | rvAddmod | rvSubmod | rvMulmod | rvDivmod => exact .plain (runModulus_plain (fun _ => execModular_plain) h)
  | rvIseqmod => exact .plain (execRvIseqmod_plain h)
  | rvSwAddNe => exact .plain (runCurve_plain (fun _ => execSwAddNe_plain) h)
  | rvSwDouble => exact .plain (runCurve_plain (fun _ => execSwDouble_plain) h)

end Sys2Proof.Machine
end

section
/-!
PROOF. The exit code of an instruction that the decoder answers is a field element.
-/

namespace Sys2Proof.Machine

section decoder

variable {f7 f3 k : Nat} {rd rs1 rs2 : BitVec 5} {imm : BitVec 12} {idx : BitVec 4} {w : Word}

/-- The decoder answers a RISC-V word's instruction, which has no mnemonic of its own, or none. -/
def AnswersWord (r : Option Instr) : Prop := ∀ i ∈ r, i.op = none

@[simp] theorem answersWord_none : AnswersWord none := fun _ h => nomatch h

@[simp] theorem answersWord_some {i : Instr} : AnswersWord (some i) ↔ i.op = none := by simp [AnswersWord]

@[simp] theorem answersWord_ite {c : Prop} [Decidable c] {r r' : Option Instr} :
    AnswersWord (if c then r else r') ↔ (c → AnswersWord r) ∧ (¬ c → AnswersWord r') := by
  by_cases h : c <;> simp [h]

@[simp] theorem decodeOp_answersWord : AnswersWord (decodeOp f7 f3 rd rs1 rs2) := by
  unfold decodeOp
  split <;> simp [Instr.op]

@[simp] theorem decodeOpImm_answersWord : AnswersWord (decodeOpImm f7 f3 rd rs1 rs2 imm) := by
  unfold decodeOpImm
  split <;> simp [Instr.op]

@[simp] theorem decodeLoad_answersWord : AnswersWord (decodeLoad f3 rd rs1 imm) := by
  unfold decodeLoad
  split <;> simp [Instr.op]

@[simp] theorem decodeStore_answersWord : AnswersWord (decodeStore f3 rs1 rs2 imm) := by
  unfold decodeStore
  split <;> simp [Instr.op]

@[simp] theorem decodeBranch_answersWord : AnswersWord (decodeBranch f3 rs1 rs2 imm) := by
  unfold decodeBranch
  split <;> simp [Instr.op]

@[simp] theorem decodeInt256_answersWord : AnswersWord (decodeInt256 f7 rd rs1 rs2) := by
  unfold decodeInt256
  split <;> simp [Instr.op]

@[simp] theorem decodeCustom0_answersWord : AnswersWord (decodeCustom0 w) := by
  unfold decodeCustom0
  split <;> simp [Instr.op]

@[simp] theorem decodeModular_answersWord : AnswersWord (decodeModular k idx rd rs1 rs2) := by
  unfold decodeModular
  split <;> simp [Instr.op]

@[simp] theorem decodeCurve_answersWord : AnswersWord (decodeCurve k idx rd rs1 rs2) := by
  unfold decodeCurve
  split <;> simp [Instr.op]

@[simp] theorem decodeCustom1_answersWord : AnswersWord (decodeCustom1 w) := by
  unfold decodeCustom1
  split <;> simp

/-- A word decodes to a RISC-V instruction, never to one of the axVM's own. -/
theorem decodeWord_answersWord : AnswersWord (decodeWord w) := by
  unfold decodeWord
  split <;> simp [Instr.op]

end decoder

theorem exitCode?_eq_some {i : Instr} {code : Nat} (h : exitCode? i = some code) :
    (∃ o : Operands, i = .terminate o ∧ o.c = code) ∨ ∃ c : BitVec 12, i = .rvTerminate c ∧ c.toNat = code := by
  unfold exitCode? at h
  split at h
  · exact .inl ⟨_, rfl, by simpa using h⟩
  · exact .inr ⟨_, rfl, by simpa using h⟩
  · cases h

theorem decodePhantom_exitCode? (o : Operands) : exitCode? (decodePhantom o) = none := by
  unfold decodePhantom
  split <;> rfl

/-- The exit code of an axVM instruction is its operand `c` (R180). -/
theorem ofOp_exitCode? {op : Op} {o : Operands} {code : Nat} (h : exitCode? (Instr.ofOp op o) = some code) : code = o.c := by
  cases op with
  | terminate => exact (Option.some.inj h).symm
  | phantom => rw [Instr.ofOp, decodePhantom_exitCode?] at h; cases h
  | storewRv32 =>
    rw [Instr.ofOp] at h
    split_ifs at h <;> cases h
  | _ => cases h

/-- The exit code of a decoded instruction is a field element: an operand, or the twelve bits of a word (R13, R529). -/
theorem exitCode?_lt_of_decode {cfg : Config} {e : RomEntry} {i : Instr} {code : Nat} (hw : cfg.Wf)
    (hd : decode cfg e = some i) (hc : exitCode? i = some code) : code < cfg.p := by
  have hp := Config.Wf.prime_gt hw
  cases e with
  | tuple t =>
    simp only [decode, decodeTuple] at hd
    split at hd
    · cases hd
      rw [ofOp_exitCode? hc]
      exact Nat.mod_lt _ (by omega)
    · cases hd
  | riscv w =>
    rcases exitCode?_eq_some hc with ⟨o, rfl, -⟩ | ⟨c, rfl, rfl⟩
    · exact absurd (decodeWord_answersWord _ hd) (by simp [Instr.op])
    · have := c.isLt
      omega

end Sys2Proof.Machine
end

section
/-!
PROOF. Every effect keeps the invariant of a run.
-/

namespace Sys2Proof.Machine

section invariant

variable {s t u : State} {v : Nat}

theorem State.Inv.prime_pos (hs : s.Inv) : 0 < s.cfg.p := by
  have := Config.Wf.prime_gt hs.cfg
  omega

/-- Every cell holds a field element (R13). -/
theorem State.Inv.read_lt (hs : s.Inv) (k : Loc) : s.mem.read k < s.cfg.p := by
  rcases Memory.read_mem s.mem k with h | h
  · rw [h]; exact hs.prime_pos
  · exact (hs.cells _ h).2.2

/-- What an instruction may write is a field element. -/
theorem State.Inv.known_lt (hs : s.Inv) (h : s.Known v) : v < s.cfg.p := by
  rcases h hs.cfg with h | ⟨k, rfl⟩ | h
  · exact h
  · exact hs.read_lt k
  · exact hs.hints v h

theorem lowBits_lt {v n x : Nat} (h : x ∈ lowBits v n) : x < 2 := by
  obtain ⟨i, -, rfl⟩ := List.mem_map.1 h
  exact Nat.mod_lt _ (by norm_num)

theorem State.Inv.setPc (hs : s.Inv) {c : Nat} (hc : c < 2 ^ 30) : ({ s with pc := c } : State).Inv := { hs with pc := hc }

theorem Plain.inv {raw : Bool} {n m : Nat} (h : Plain raw n m s t) (hs : s.Inv) : t.Inv := by
  obtain ⟨hrest, hpc, hrow⟩ := h
  have hcells : ∀ x ∈ t.mem, ValidSpace s.cfg x.1.space ∧ x.1.ptr < 2 ^ s.cfg.pointerMaxBits ∧ x.2 < s.cfg.p := by
    intro x hx
    rcases hrow.cells hx with hx | ⟨hspace, hptr, hknown⟩
    · exact hs.cells x hx
    · exact ⟨hspace, hptr, hs.known_lt hknown⟩
  rw [hrest]
  exact { hs with
    canonical := hrow.wf hs.canonical
    cells := hcells
    pc := hpc hs.cfg
    hints := fun x hx => hs.hints x (List.mem_of_mem_drop hx) }

theorem PhantomDone.inv (h : PhantomDone s u) (hs : s.Inv) : u.Inv := by
  cases h with
  | nothing => exact hs
  | logged ev hev =>
    refine { hs with log := fun v hv => ?_ }
    rcases List.mem_append.1 hv with hv | hv
    · exact hs.log v hv
    · obtain ⟨k, rfl⟩ := hev v (List.mem_singleton.1 hv).symm
      exact hs.read_lt k
  | @hintTaken hint rest hin =>
    have hlt : ∀ w ∈ hint :: rest, ∀ x ∈ w, x < s.cfg.p := hin ▸ hs.inputs
    refine { hs with inputs := fun w hw => hlt w (List.mem_cons_of_mem _ hw), hints := fun x hx => ?_ }
    rcases List.mem_cons.1 hx with rfl | hx
    · exact Nat.mod_lt _ hs.prime_pos
    · exact hlt hint List.mem_cons_self x hx
  | hintBits v n =>
    refine { hs with hints := fun x hx => ?_ }
    have hp : 2 ≤ s.cfg.p := by have := Config.Wf.prime_gt hs.cfg; omega
    exact (lowBits_lt hx).trans_le hp

/-- Every effect keeps the invariant, where the exit code is a field element. -/
theorem Effect.inv {i : Instr} (h : Effect i s t) (hs : s.Inv) (hcode : ∀ code, exitCode? i = some code → code < s.cfg.p) :
    t.Inv := by
  cases h with
  | plain h => exact h.inv hs
  | @ended code h => exact { hs with status := .inr ⟨code, hcode code h, rfl⟩ }
  | phantom h hpc => exact (h.inv hs).setPc hpc
  | @published k l hk hnone hpc =>
    refine State.Inv.setPc (s := { s with publicValues := s.publicValues.insert k (s.mem.read l) }) ?_ hpc
    refine { hs with publics := ⟨NatMap.insert_wf hs.publics.1 _ _, fun x hx => ?_⟩ }
    rcases NatMap.mem_insert hx with rfl | hx
    · exact ⟨hk, hs.read_lt l⟩
    · exact hs.publics.2 x hx

end invariant

end Sys2Proof.Machine

namespace Sys2Proof

open Machine

/-- Settles O10: the step ran a decoded instruction, whose effect keeps the invariant. -/
theorem stepKeepsTheInvariant : Obligations.StepKeepsTheInvariant := by
  intro s t hs h
  obtain ⟨-, -, -, e, i, -, hdecode, hexec⟩ := step_next.1 h
  exact (exec_effect hexec).inv hs fun code => exitCode?_lt_of_decode hs.cfg hdecode

end Sys2Proof
end

section
/-!
PROOF. The launch state, and the accesses to blocks of cells with their faults.
-/

namespace Sys2Proof.Machine

/-! ### The launch state -/

theorem launch_wf : Config.launch.Wf := by decide +kernel

/-- Nothing is loaded at launch, so that only the configuration, `pc` and the status need an argument. -/
theorem reset_inv : State.reset.Inv where
  cfg := launch_wf
  canonical := ⟨.nil, fun _ h => nomatch h⟩
  cells := fun _ h => nomatch h
  pc := by decide
  inputs := fun _ h => nomatch h
  hints := fun _ h => nomatch h
  publics := ⟨.nil, fun _ h => nomatch h⟩
  prog := ⟨.nil, fun _ h => nomatch h⟩
  log := fun _ h => nomatch h
  status := .inl rfl

@[simp] theorem reset_read (k : Loc) : State.reset.mem.read k = 0 := rfl

theorem reset_bytePremise : State.reset.BytePremise := fun _ => by simp

/-! ### The failing checks of an access, in their order -/

section checks

variable {s : State} {sp q n : Nat} {l : List Nat} {cause : Fault}

theorem checkBlock_of_not_validSpace (h : ¬ ValidSpace s.cfg sp) : s.checkBlock sp q n = .error .badAddressSpace := by
  simp only [State.checkBlock, State.checkRange, require_not h, error_bind]

theorem checkBlock_of_not_fits (hs : ValidSpace s.cfg sp) (h : ¬ s.Fits q n) :
    s.checkBlock sp q n = .error .pointerOutOfRange := by
  simp only [State.checkBlock, State.checkRange, require_of hs, require_not h, ok_bind, error_bind]

theorem checkBlock_of_misaligned (hs : ValidSpace s.cfg sp) (hq : s.Fits q n) (h : ¬ (n ∈ supportedBlocks ∧ q % n = 0)) :
    s.checkBlock sp q n = .error .misaligned := by
  simp only [State.checkBlock, (checkRange_ok (u := ())).2 ⟨hs, hq⟩, require_not h, ok_bind]

/-- A block access that fails a check is that fault, and nothing is read or written. -/
theorem block_error (h : s.checkBlock sp q l.length = .error cause) :
    s.blockRead sp q l.length = .error cause ∧ s.blockWrite sp q l = .error cause := by
  simp only [State.blockRead, State.blockWrite, h, error_bind, and_self]

/-- A register with a cell that is no byte cannot be read. -/
theorem reg32_notByte (hw : s.cfg.Wf) (hq : s.RegPtr q) (h : ∃ k < 4, 256 ≤ s.mem.read ⟨1, q + k⟩) :
    s.reg32 q = .error .notByte := by
  have hread : s.blockRead 1 q 4 = .ok (s.mem.readCells 1 q 4) := blockRead_ok.2 ⟨regOk_of_regPtr hw hq, rfl⟩
  have hbytes : ¬ ∀ v ∈ s.mem.readCells 1 q 4, v < 256 := by
    obtain ⟨k, hk, h256⟩ := h
    exact fun hall => absurd (hall _ (Memory.mem_readCells.2 ⟨k, hk, rfl⟩)) (by omega)
  simp only [State.reg32, bytesOf, hread, require_not hbytes, ok_bind, error_bind]

/-- A block write that passes its checks writes the row and nothing else. -/
theorem blockWrite_wrote (h : s.BlockOk sp q l.length) :
    ∃ t, s.blockWrite sp q l = .ok t ∧ Wrote s t s.pc sp q l.length (l.getD · 0) :=
  ⟨_, blockWrite_ok.2 ⟨h, rfl⟩, wrote_of_row rfl fun _ _ => rfl⟩

end checks

end Sys2Proof.Machine

namespace Sys2Proof

open Machine

/-- Settles O9. -/
theorem launchStateMeetsTheInvariant : Obligations.LaunchStateMeetsTheInvariant := ⟨reset_inv, reset_bytePremise⟩

/-- Settles O60: the failing checks one by one, then the accesses that pass them all. -/
theorem blockAccessesCheckThenAct : Obligations.BlockAccessesCheckThenAct := by
  intro s sp q l
  refine ⟨fun hsp => ?_, fun hsp hfits => ?_, fun hsp hfits halign => ?_, fun hsp hfits hsize halign => ?_, fun hw => ?_⟩
  · exact block_error (checkBlock_of_not_validSpace hsp)
  · exact block_error (checkBlock_of_not_fits hsp hfits)
  · exact block_error (checkBlock_of_misaligned hsp hfits halign)
  · have hok : s.BlockOk sp q l.length := ⟨⟨hsp, hfits⟩, hsize, halign⟩
    refine ⟨⟨s.mem.readCells sp q l.length, blockRead_ok.2 ⟨hok, rfl⟩, by simp, fun k hk => ?_⟩, blockWrite_wrote hok⟩
    exact Memory.readCells_getElem _ _ _ _ _ hk
  · exact ⟨fun x => reg32_of_holds hw, reg32_notByte hw⟩

end Sys2Proof
end

section
/-!
PROOF. The quartic extension over BabyBear is a field, and its instructions compute in it.
-/

namespace Sys2Proof.Machine

/-! ### The arithmetic of canonical representatives, read in `ZMod p` -/

section field

variable {p x y : Nat}

theorem cast_fadd : ((fadd p x y : Nat) : ZMod p) = x + y := by simp [fadd]

theorem cast_fmul : ((fmul p x y : Nat) : ZMod p) = x * y := by simp [fmul]

theorem cast_fsub (hp : 0 < p) : ((fsub p x y : Nat) : ZMod p) = x - y := by
  rw [fsub, ZMod.natCast_mod, Nat.cast_add, Nat.cast_sub (Nat.mod_lt y hp).le, ZMod.natCast_mod, ZMod.natCast_self]
  ring

theorem cast_fe (hp : 0 < p) (v : Int) : ((fe p v : Nat) : ZMod p) = v := by
  have h : ((fe p v : Nat) : Int) = v % p := Int.toNat_of_nonneg (Int.emod_nonneg _ (by omega))
  rw [← Int.cast_natCast, h, ZMod.intCast_mod]

theorem fe_natCast (p n : Nat) : fe p (n : Int) = n % p := by
  rw [fe, ← Int.natCast_mod, Int.toNat_natCast]

theorem fe_lt (hp : 0 < p) (v : Int) : fe p v < p := by
  have := Int.emod_lt_of_pos v (show (0 : Int) < p by omega)
  have := Int.emod_nonneg v (show (p : Int) ≠ 0 by omega)
  unfold fe
  omega

/-- Canonical representatives of the same field element are equal. -/
theorem eq_of_cast_eq (hx : x < p) (hy : y < p) (h : (x : ZMod p) = y) : x = y :=
  Nat.ModEq.eq_of_lt_of_lt ((ZMod.natCast_eq_natCast_iff _ _ _).1 h) hx hy

theorem fsub_eq_fe (hp : 0 < p) : fsub p x y = fe p (x - y) := by
  refine eq_of_cast_eq (Nat.mod_lt _ hp) (fe_lt hp _) ?_
  rw [cast_fsub hp, cast_fe hp]
  push_cast
  rfl

/-- In a prime field `modInv` is the inverse. -/
theorem cast_modInv (hp : p.Prime) (hy : (y : ZMod p) ≠ 0) : ((modInv y p : Nat) : ZMod p) * y = 1 := by
  have hcop : Nat.gcd y p = 1 :=
    (hp.coprime_iff_not_dvd.2 fun hd => hy ((ZMod.natCast_eq_zero_iff _ _).2 hd)).symm
  have h := (ZMod.intCast_eq_intCast_iff _ _ _).2 (modInv_spec hp.pos hcop).2
  exact_mod_cast h

end field

/-! ### The norm of a quartic element -/

section norm

variable {y0 y1 y2 y3 : ZMod babyBear}

/-- A non-zero element of `F[x] / (x^4 - 11)` has a non-zero norm. Its norm to `F[x^2]` is `a + b x^2`, whose norm to `F` vanishes only
for `a = b = 0`, as 11 is no square; then the two halves of the element have norms `r` and `t` with `r^2 = -11 t^2`, which
vanish as -11 is no square, and with them the halves. -/
theorem norm_eq_zero (h : (y0 ^ 2 + 11 * y2 ^ 2 - 22 * (y1 * y3)) ^ 2 - 11 * (2 * (y0 * y2) - y1 ^ 2 - 11 * y3 ^ 2) ^ 2 = 0) :
    y0 = 0 ∧ y1 = 0 ∧ y2 = 0 ∧ y3 = 0 := by
  obtain ⟨ha, hb⟩ := eleven_not_square (sub_eq_zero.1 h)
  have hrt : (y0 ^ 2 - 11 * y2 ^ 2) ^ 2 = -(11 * (y1 ^ 2 - 11 * y3 ^ 2) ^ 2) := by
    linear_combination (y0 ^ 2 + 11 * y2 ^ 2 + 22 * (y1 * y3)) * ha - 11 * (2 * (y0 * y2) + y1 ^ 2 + 11 * y3 ^ 2) * hb
  obtain ⟨hr, ht⟩ := minus_eleven_not_square hrt
  obtain ⟨h0, h2⟩ := eleven_not_square (sub_eq_zero.1 hr)
  obtain ⟨h1, h3⟩ := eleven_not_square (sub_eq_zero.1 ht)
  exact ⟨h0, h1, h2, h3⟩

end norm

/-! ### The quartic extension over the field -/

/-- An element of `F[x] / (x^4 - 11)`: its four coefficients (R450). -/
@[ext] structure Quartic (F : Type) where
  c0 : F
  c1 : F
  c2 : F
  c3 : F

section quartic

variable {p : Nat} {x y z : Ext}

/-- Multiplication reduced by `x^4 = 11` (R453). -/
def Quartic.mul (u v : Quartic (ZMod p)) : Quartic (ZMod p) where
  c0 := u.c0 * v.c0 + 11 * (u.c1 * v.c3 + u.c2 * v.c2 + u.c3 * v.c1)
  c1 := u.c0 * v.c1 + u.c1 * v.c0 + 11 * (u.c2 * v.c3 + u.c3 * v.c2)
  c2 := u.c0 * v.c2 + u.c1 * v.c1 + u.c2 * v.c0 + 11 * (u.c3 * v.c3)
  c3 := u.c0 * v.c3 + u.c1 * v.c2 + u.c2 * v.c1 + u.c3 * v.c0

theorem Quartic.mul_assoc (u v w : Quartic (ZMod p)) : (u.mul v).mul w = u.mul (v.mul w) := by
  ext <;> simp only [Quartic.mul] <;> ring

theorem Quartic.mul_one (u : Quartic (ZMod p)) : u.mul ⟨1, 0, 0, 0⟩ = u := by
  ext <;> simp [Quartic.mul]

/-- The field element that four canonical representatives stand for. -/
def Ext.val (p : Nat) (z : Ext) : Quartic (ZMod p) := ⟨z.x0, z.x1, z.x2, z.x3⟩

/-- The coefficients are canonical (R13). -/
def Ext.Reduced (p : Nat) (z : Ext) : Prop := z.x0 < p ∧ z.x1 < p ∧ z.x2 < p ∧ z.x3 < p

theorem val_extMul (x y : Ext) : (extMul p x y).val p = (x.val p).mul (y.val p) := by
  ext <;> simp [Ext.val, Quartic.mul, extMul]

theorem extMul_reduced (hp : 0 < p) (x y : Ext) : (extMul p x y).Reduced p :=
  ⟨Nat.mod_lt _ hp, Nat.mod_lt _ hp, Nat.mod_lt _ hp, Nat.mod_lt _ hp⟩

/-- Canonical elements with the same value are equal. -/
theorem Ext.Reduced.eq_of_val (hx : x.Reduced p) (hy : y.Reduced p) (h : x.val p = y.val p) : x = y := by
  obtain ⟨x0, x1, x2, x3⟩ := x
  obtain ⟨y0, y1, y2, y3⟩ := y
  obtain ⟨hx0, hx1, hx2, hx3⟩ := hx
  obtain ⟨hy0, hy1, hy2, hy3⟩ := hy
  obtain ⟨h0, h1, h2, h3⟩ := Quartic.mk.inj h
  rw [Ext.mk.injEq]
  exact ⟨eq_of_cast_eq hx0 hy0 h0, eq_of_cast_eq hx1 hy1 h1, eq_of_cast_eq hx2 hy2 h2, eq_of_cast_eq hx3 hy3 h3⟩

/-! ### The operations on integers -/

theorem extAdd_toList : (extAdd p x y).toList =
    [fe p (x.x0 + y.x0), fe p (x.x1 + y.x1), fe p (x.x2 + y.x2), fe p (x.x3 + y.x3)] := by
  simp only [extAdd, Ext.toList, fadd, ← fe_natCast, Nat.cast_add]

theorem extSub_toList (hp : 0 < p) : (extSub p x y).toList =
    [fe p (x.x0 - y.x0), fe p (x.x1 - y.x1), fe p (x.x2 - y.x2), fe p (x.x3 - y.x3)] := by
  simp only [extSub, Ext.toList, fsub_eq_fe hp]

theorem extMul_toList : (extMul p x y).toList =
    [fe p (x.x0 * y.x0 + 11 * (x.x1 * y.x3 + x.x2 * y.x2 + x.x3 * y.x1)),
     fe p (x.x0 * y.x1 + x.x1 * y.x0 + 11 * (x.x2 * y.x3 + x.x3 * y.x2)),
     fe p (x.x0 * y.x2 + x.x1 * y.x1 + x.x2 * y.x0 + 11 * (x.x3 * y.x3)),
     fe p (x.x0 * y.x3 + x.x1 * y.x2 + x.x2 * y.x1 + x.x3 * y.x0)] := by
  simp only [extMul, Ext.toList, ← fe_natCast, Nat.cast_add, Nat.cast_mul, Nat.cast_ofNat]

end quartic

/-! ### Division in the quartic extension -/

section division

variable {p : Nat} {x y : Ext}

/-- The coefficient of 1 of the norm of `y` to `F[x^2]`. -/
def normC0 (p : Nat) (y : Ext) : Nat := fe p ((y.x0 : Int) * y.x0 + 11 * ((y.x2 : Int) * y.x2) - 22 * ((y.x1 : Int) * y.x3))

/-- The coefficient of `x^2` of the norm of `y` to `F[x^2]`. -/
def normC2 (p : Nat) (y : Ext) : Nat := fe p (2 * ((y.x0 : Int) * y.x2) - (y.x1 : Int) * y.x1 - 11 * ((y.x3 : Int) * y.x3))

/-- The norm of `y` to `F`. -/
def normF (p : Nat) (y : Ext) : Nat := fe p ((normC0 p y : Int) * normC0 p y - 11 * ((normC2 p y : Int) * normC2 p y))

theorem cast_normC0 (hp : 0 < p) :
    ((normC0 p y : Nat) : ZMod p) = (y.x0 : ZMod p) ^ 2 + 11 * (y.x2 : ZMod p) ^ 2 - 22 * (y.x1 * y.x3) := by
  rw [normC0, cast_fe hp]
  push_cast
  ring

theorem cast_normC2 (hp : 0 < p) :
    ((normC2 p y : Nat) : ZMod p) = 2 * (y.x0 * y.x2) - (y.x1 : ZMod p) ^ 2 - 11 * (y.x3 : ZMod p) ^ 2 := by
  rw [normC2, cast_fe hp]
  push_cast
  ring

theorem cast_normF (hp : 0 < p) :
    ((normF p y : Nat) : ZMod p) = (normC0 p y : ZMod p) ^ 2 - 11 * (normC2 p y : ZMod p) ^ 2 := by
  rw [normF, cast_fe hp]
  push_cast
  ring

/-- The inverse is the conjugate `y(-x)`, times the conjugate of the norm to `F[x^2]`, over the norm to `F` (R454). -/
theorem val_extInv (hp : 0 < p) : (extInv p y).val p =
    let k : ZMod p := (modInv (normF p y) p : Nat)
    let z := Quartic.mul (p := p) ⟨y.x0, -y.x1, y.x2, -y.x3⟩ ⟨normC0 p y, 0, -normC2 p y, 0⟩
    ⟨k * z.c0, k * z.c1, k * z.c2, k * z.c3⟩ := by
  unfold extInv
  ext <;> simp [Ext.val, Quartic.mul, extMul, cast_fmul, cast_fsub hp, normF, normC0, normC2]

theorem normF_ne_zero (hy : y.Reduced babyBear) (h0 : y ≠ ⟨0, 0, 0, 0⟩) : ((normF babyBear y : Nat) : ZMod babyBear) ≠ 0 := by
  have hp := babyBear_prime.pos
  rw [cast_normF hp, cast_normC0 hp, cast_normC2 hp]
  intro h
  obtain ⟨e0, e1, e2, e3⟩ := norm_eq_zero h
  exact h0 (hy.eq_of_val ⟨hp, hp, hp, hp⟩ (by simp [Ext.val, e0, e1, e2, e3]))

theorem val_extInv_mul (hy : y.Reduced babyBear) (h0 : y ≠ ⟨0, 0, 0, 0⟩) :
    ((extInv babyBear y).val babyBear).mul (y.val babyBear) = ⟨1, 0, 0, 0⟩ := by
  have hp := babyBear_prime.pos
  have hk := cast_modInv babyBear_prime (normF_ne_zero hy h0)
  rw [cast_normF hp, cast_normC0 hp, cast_normC2 hp] at hk
  rw [val_extInv hp]
  ext <;> simp only [Quartic.mul, Ext.val, cast_normC0 hp, cast_normC2 hp]
  · linear_combination hk
  · ring
  · ring
  · ring

/-- The quotient times the divisor is the dividend (R454). -/
theorem extMul_extDiv (hx : x.Reduced babyBear) (hy : y.Reduced babyBear) (h0 : y ≠ ⟨0, 0, 0, 0⟩) :
    extMul babyBear (extDiv babyBear x y) y = x := by
  refine (extMul_reduced babyBear_prime.pos _ _).eq_of_val hx ?_
  rw [val_extMul, extDiv, val_extMul, Quartic.mul_assoc, val_extInv_mul hy h0, Quartic.mul_one]

end division

/-! ### Running an instruction of the extension -/

section extension

/-- The extension field exists over BabyBear only (R450). -/
theorem prime_eq_of_nativeExt {cfg : Config} {op : Op} (hop : op.cls = .nativeExt) (h : opEnabled cfg op = true) :
    cfg.p = babyBear := by
  obtain ⟨-, hc⟩ := Bool.and_eq_true_iff.1 h
  cases op with
  | fe4add | fe4sub | bbe4mul | bbe4div => exact beq_iff_eq.1 hc
  | _ => cases hop

/-- The premises on memory of the extension field instructions: three blocks, of which two hold `x` and `y` (R450). -/
structure ExtOperands (s : State) (a b c d e : Nat) (x y : Ext) : Prop where
  spaces : ValidSpace s.cfg d ∧ ValidSpace s.cfg e
  dest : s.BlockOk d a 4
  left : s.BlockOk d b 4
  right : s.BlockOk e c 4
  leftCells : s.mem.readCells d b 4 = x.toList
  rightCells : s.mem.readCells e c 4 = y.toList

@[simp] theorem Ext.ofList_toList (x : Ext) : Ext.ofList x.toList = x := rfl

variable {s : State} {a b c d e : Nat} {x y z : Ext} {op : Op} {f : Nat → Ext → Ext → Except Fault Ext} {cause : Fault}

/-- The element that the operation answers is written. -/
theorem ExtOperands.next (h : ExtOperands s a b c d e x y) (hr : s.Ready op) (hf : f s.cfg.p x y = .ok z) :
    ∃ t, execExt op f ⟨a, b, c, d, e, 0, 0⟩ s = .next t ∧ Wrote s t (s.pc + 4) d a 4 (z.toList.getD · 0) := by
  refine ⟨s.wrote d a z.toList, execExt_next.2 ⟨⟨hr.2.1, h.spaces, rfl, rfl⟩, h.left, h.right, z, ?_, h.dest,
    stepOk_of_ready hr, rfl⟩, wrote_of_ready hr rfl fun _ _ => rfl⟩
  rw [h.leftCells, h.rightCells, Ext.ofList_toList, Ext.ofList_toList, hf]

/-- The fault of the operation is that of the instruction. -/
theorem ExtOperands.fault (h : ExtOperands s a b c d e x y) (hr : s.Ready op) (hf : f s.cfg.p x y = .error cause) :
    execExt op f ⟨a, b, c, d, e, 0, 0⟩ s = .fault cause := by
  have hop : s.requireOp op = .ok () := requireOp_ok.2 hr.2.1
  have hspaces : s.nativeSpaces d e = .ok () := nativeSpaces_ok.2 h.spaces
  have hfg : noFG ⟨a, b, c, d, e, 0, 0⟩ = .ok () := noFG_ok.2 ⟨rfl, rfl⟩
  have hx : s.blockRead d b 4 = .ok x.toList := blockRead_ok.2 ⟨h.left, h.leftCells⟩
  have hy : s.blockRead e c 4 = .ok y.toList := blockRead_ok.2 ⟨h.right, h.rightCells⟩
  simp only [execExt, outcome_fault, hop, hspaces, hfg, hx, hy, Ext.ofList_toList, hf, ok_bind, error_bind]

end extension

end Sys2Proof.Machine

namespace Sys2Proof

open Machine

/-- Settles O58: each result is a list of residues; the quotient is the product with the inverse, which exists for a divisor other
than zero. -/
theorem extensionArithmeticWritesItsResult : Obligations.ExtensionArithmeticWritesItsResult := by
  intro s a b c d e x0 x1 x2 x3 y0 y1 y2 y3 hd he ha hfa hb hfb hc hfc hx hy hx0 hx1 hx2 hx3 hy0 hy1 hy2 hy3 mod times
  have h : ExtOperands s a b c d e ⟨x0, x1, x2, x3⟩ ⟨y0, y1, y2, y3⟩ :=
    ⟨⟨hd, he⟩, ⟨⟨hd, hfa⟩, by decide, ha⟩, ⟨⟨hd, hfb⟩, by decide, hb⟩, ⟨⟨he, hfc⟩, by decide, hc⟩, hx, hy⟩
  refine ⟨fun hr => ?_, fun hr => ?_, fun hr => ?_, fun hr hne => ?_, fun hr hz => ?_⟩
  · have hw := h.next hr (f := quarticAdd) rfl
    rw [prime_eq_of_nativeExt rfl hr.2.1, extAdd_toList] at hw
    exact hw
  · have hw := h.next hr (f := quarticSub) rfl
    rw [prime_eq_of_nativeExt rfl hr.2.1, extSub_toList babyBear_prime.pos] at hw
    exact hw
  · have hw := h.next hr (f := quarticMul) rfl
    rw [prime_eq_of_nativeExt rfl hr.2.1, extMul_toList] at hw
    exact hw
  · have hne' : (⟨y0, y1, y2, y3⟩ : Ext) ≠ ⟨0, 0, 0, 0⟩ := by simpa using hne
    obtain ⟨t, hexec, hwrote⟩ := h.next hr (f := quarticDiv) (quarticDiv_ok.2 ⟨hne', rfl⟩)
    rw [prime_eq_of_nativeExt rfl hr.2.1] at hwrote
    refine ⟨t, _, _, _, _, hexec, ?_, hwrote⟩
    have hxr : Ext.Reduced babyBear ⟨x0, x1, x2, x3⟩ := ⟨hx0, hx1, hx2, hx3⟩
    have hyr : Ext.Reduced babyBear ⟨y0, y1, y2, y3⟩ := ⟨hy0, hy1, hy2, hy3⟩
    have hmul := congrArg Ext.toList (extMul_extDiv hxr hyr hne')
    rw [extMul_toList] at hmul
    exact hmul
  · obtain ⟨rfl, rfl, rfl, rfl⟩ := hz
    exact h.fault hr (f := quarticDiv) rfl

end Sys2Proof
end

section
/-!
PROOF. What a completed instruction does to the program, the status, the byte cells, the queues and the host's sinks.
-/

namespace Sys2Proof.Machine

/-! ### What every effect keeps -/

section effects

variable {i : Instr} {s t u : State}

theorem PhantomDone.prog_eq (h : PhantomDone s u) : u.prog = s.prog := by cases h <;> rfl

theorem PhantomDone.status_eq (h : PhantomDone s u) : u.status = s.status := by cases h <;> rfl

theorem PhantomDone.mem_eq (h : PhantomDone s u) : u.mem = s.mem := by cases h <;> rfl

theorem Plain.prog_eq {raw : Bool} {n m : Nat} (h : Plain raw n m s t) : t.prog = s.prog := by rw [h.rest]

theorem Plain.cfg_eq {raw : Bool} {n m : Nat} (h : Plain raw n m s t) : t.cfg = s.cfg := by rw [h.rest]

theorem Plain.status_eq {raw : Bool} {n m : Nat} (h : Plain raw n m s t) : t.status = s.status := by rw [h.rest]

theorem nativeClass_eq_false {c : OpClass} : nativeClass c = false ↔
    c ≠ .nativeBase ∧ c ≠ .nativeField ∧ c ≠ .nativeExt ∧ c ≠ .nativeHash := by
  cases c <;> simp [nativeClass]

/-- The premise on the class of an instruction, in the terms of its effect: a RISC-V word has no class and is not native. -/
theorem isNative_eq_false (h : ∀ op, i.op = some op → op.cls ≠ .nativeBase ∧ op.cls ≠ .nativeField ∧
    op.cls ≠ .nativeExt ∧ op.cls ≠ .nativeHash) : isNative i = false := by
  unfold isNative
  split
  · exact nativeClass_eq_false.2 (h _ ‹_›)
  · rfl

/-- A cell that holds a byte holds one after an instruction that is not native. -/
theorem Effect.byte (h : Effect i s t) (hi : isNative i = false) {k : Loc} (hk : s.mem.read k < 256) : t.mem.read k < 256 := by
  cases h with
  | plain h => exact (hi ▸ h.row).byte hk
  | ended => exact hk
  | phantom h => exact (congrArg (·.read k) h.mem_eq).trans_lt hk
  | published => exact hk

theorem Effect.prog_eq (h : Effect i s t) : t.prog = s.prog := by
  cases h with
  | plain h => exact h.prog_eq
  | ended => rfl
  | phantom h => exact h.prog_eq
  | published => rfl

theorem Effect.cfg_eq (h : Effect i s t) : t.cfg = s.cfg := by
  cases h with
  | plain h => exact h.cfg_eq
  | ended => rfl
  | phantom h => exact h.cfg_eq
  | published => rfl

/-- An effect leaves the status, or is that of the end of a run, which leaves everything else. -/
theorem Effect.status_cases (h : Effect i s t) :
    t.status = s.status ∨ ∃ code, exitCode? i = some code ∧ t = { s with status := .terminated code } := by
  cases h with
  | plain h => exact .inl h.status_eq
  | ended h => exact .inr ⟨_, h, rfl⟩
  | phantom h => exact .inl h.status_eq
  | published => exact .inl rfl

end effects

end Sys2Proof.Machine

namespace Sys2Proof

open Machine

/-- Settles O11: an instruction that is not native writes at most one row of bytes. -/
theorem onlyNativeInstructionsBreakTheBytePremise : Obligations.OnlyNativeInstructionsBreakTheBytePremise := by
  intro i s t hi hs h q
  have hbyte : ∀ k : Loc, s.mem.read k < 256 → t.mem.read k < 256 := fun _ => (exec_effect h).byte (isNative_eq_false hi)
  exact ⟨hbyte _ (hs q).1, hbyte _ (hs q).2⟩

/-- Settles O13. -/
theorem programAndConfigurationAreFixed : Obligations.ProgramAndConfigurationAreFixed :=
  fun _ _ _ h => ⟨(exec_effect h).prog_eq, (exec_effect h).cfg_eq⟩

/-- Settles O14: the one effect that changes the status is that of the two instructions with an exit code. -/
theorem onlyTerminateEndsTheRun : Obligations.OnlyTerminateEndsTheRun := by
  intro i s t h hne
  obtain ⟨code, hcode, rfl⟩ := (exec_effect h).status_cases.resolve_left hne
  refine ⟨?_, rfl⟩
  rcases exitCode?_eq_some hcode with ⟨o, rfl, -⟩ | ⟨c, rfl, -⟩
  · exact .inl ⟨o, rfl⟩
  · exact .inr ⟨c, rfl⟩

end Sys2Proof
end

section
/-!
PROOF. Which instructions change the queues, the public values, the host's sinks and the count of free choices. `Effect` says how an
instruction may change them; here is also how much each instruction takes from the hint stream and draws.
-/

namespace Sys2Proof.Machine

/-! ### What each instruction takes -/

/-- The hint elements that an instruction stores to memory (R330, R434). -/
def hintsTaken : Instr → Nat
  | .hintstorewRv32 _ | .rvHintstorew _ _ => 4
  | .shintw _ => 1
  | _ => 0

/-- The free choices that an instruction makes: one for each number it writes modulo a configured one (R392, R401). -/
def choicesMade : Instr → Nat
  | .addmodRv32 _ _ | .submodRv32 _ _ | .mulmodRv32 _ _ | .divmodRv32 _ _ => 1
  | .rvAddmod _ _ _ _ | .rvSubmod _ _ _ _ | .rvMulmod _ _ _ _ | .rvDivmod _ _ _ _ => 1
  | .swAddNe _ _ | .swDouble _ _ | .rvSwAddNe _ _ _ _ | .rvSwDouble _ _ _ => 2
  | _ => 0

/-- The discriminant of the phantom sub-instruction that an instruction runs (R190). -/
def discriminant? : Instr → Option Nat
  | .phantom o => some (o.c % 65536)
  | .phantomNop _ => some 0
  | .phantomDebugPanic _ => some 1
  | .phantomPrintF _ => some 2
  | .phantomHintInput _ | .rvHintinput => some 3
  | .phantomHintBits _ => some 4
  | .phantomCtStart _ => some 5
  | .phantomCtEnd _ => some 6
  | .phantomHintFinalExpBn254 _ => some 7
  | .phantomHintFinalExpBls12381 _ => some 8
  | _ => none

section tables

variable {i : Instr}

theorem of_hintsTaken (h : hintsTaken i ≠ 0) :
    (∃ o, i = .hintstorewRv32 o) ∨ (∃ rd imm, i = .rvHintstorew rd imm) ∨ ∃ o, i = .shintw o := by
  unfold hintsTaken at h
  split at h
  · exact .inl ⟨_, rfl⟩
  · exact .inr (.inl ⟨_, _, rfl⟩)
  · exact .inr (.inr ⟨_, rfl⟩)
  · exact absurd rfl h

theorem of_choicesMade (h : choicesMade i ≠ 0) :
    (∃ n o, i ∈ [.addmodRv32 n o, .submodRv32 n o, .mulmodRv32 n o, .divmodRv32 n o, .swAddNe n o, .swDouble n o]) ∨
      ∃ idx rd rs1 rs2, i ∈ [.rvAddmod idx rd rs1 rs2, .rvSubmod idx rd rs1 rs2, .rvMulmod idx rd rs1 rs2,
        .rvDivmod idx rd rs1 rs2, .rvSwAddNe idx rd rs1 rs2, .rvSwDouble idx rd rs1] := by
  unfold choicesMade at h
  split at h <;> simp_all

theorem of_discriminant_three (h : discriminant? i = some 3) :
    (∃ o, i = .phantom o) ∨ (∃ q, i = .phantomHintInput q) ∨ i = .rvHintinput := by
  unfold discriminant? at h
  split at h <;> simp_all

theorem of_discriminant_four (h : discriminant? i = some 4) : (∃ o, i = .phantom o) ∨ ∃ q, i = .phantomHintBits q := by
  unfold discriminant? at h
  split at h <;> simp_all

theorem of_discriminant_log {disc : Nat} (hd : disc ∈ [2, 5, 6]) (h : discriminant? i = some disc) :
    (∃ o, i = .phantom o) ∨ ∃ q, i ∈ [.phantomPrintF q, .phantomCtStart q, .phantomCtEnd q] := by
  unfold discriminant? at h
  split at h <;> cases h <;> simp at hd ⊢

end tables

/-! ### What an instruction did to the queues -/

/-- What an instruction that has a successor did to the components other than `pc` and memory, with the instructions that do it. -/
inductive QueueEffect (i : Instr) (s : State) : State → Prop
  | took {t : State} (h : t = { s with
      pc := t.pc, mem := t.mem, hintStream := s.hintStream.drop (hintsTaken i), draws := s.draws + choicesMade i }) :
      QueueEffect i s t
  | ended (code : Nat) : QueueEffect i s { s with status := .terminated code }
  | logged {disc pc : Nat} (hd : disc ∈ [2, 5, 6]) (hi : discriminant? i = some disc) (ev : HostEvent) :
      QueueEffect i s { s with pc := pc, hostLog := s.hostLog ++ [ev] }
  | hintInput {pc : Nat} (hi : discriminant? i = some 3) (rest : List (List Nat)) (l : List Nat) :
      QueueEffect i s { s with pc := pc, inputStream := rest, hintStream := l }
  | hintBits {pc : Nat} (hi : discriminant? i = some 4) (l : List Nat) :
      QueueEffect i s { s with pc := pc, hintStream := l }
  | published {o : Operands} {k pc : Nat} (hi : i = .publish o) (hnone : s.publicValues.get? k = none) (v : Nat) :
      QueueEffect i s { s with publicValues := s.publicValues.insert k v, pc := pc }

/-- The instructions that run a phantom sub-instruction take no hint elements and make no choices. -/
theorem of_discriminant {i : Instr} {disc : Nat} (h : discriminant? i = some disc) : hintsTaken i = 0 ∧ choicesMade i = 0 := by
  unfold discriminant? at h
  split at h <;> cases h <;> exact ⟨rfl, rfl⟩

theorem runPhantom_queueEffect {i : Instr} {disc : Nat} {q : PhantomOperands} {s t : State} (hi : discriminant? i = some disc)
    (h : runPhantom (phantomEffect disc) q s = .next t) : QueueEffect i s t := by
  obtain ⟨-, -, u, hu, -, rfl⟩ := runPhantom_next.1 h
  unfold phantomEffect at hu
  split at hu
  · obtain ⟨-, rfl⟩ := phantomNopEffect_ok.1 hu
    obtain ⟨hhints, hchoices⟩ := of_discriminant hi
    exact .took (by rw [hhints, hchoices]; rfl)
  · exact absurd hu phantomDebugPanicEffect_ok
  · obtain ⟨-, -, rfl⟩ := phantomPrintFEffect_ok.1 hu; exact .logged (by decide) hi _
  · obtain ⟨-, _, _, -, rfl⟩ := phantomHintInputEffect_ok.1 hu; exact .hintInput hi _ _
  · obtain ⟨-, -, rfl⟩ := phantomHintBitsEffect_ok.1 hu; exact .hintBits hi _
  · obtain ⟨-, rfl⟩ := phantomCtStartEffect_ok.1 hu; exact .logged (by decide) hi _
  · obtain ⟨-, rfl⟩ := phantomCtEndEffect_ok.1 hu; exact .logged (by decide) hi _
  · exact absurd hu phantomTodoEffect_ok
  · exact absurd hu phantomTodoEffect_ok
  · exact absurd hu phantomUnknownEffect_ok

theorem execTerminate_queueEffect {i : Instr} {o : Operands} {s t : State} (h : execTerminate o s = .next t) :
    QueueEffect i s t := by
  obtain ⟨-, -, rfl⟩ := execTerminate_next.1 h
  exact .ended _

theorem execPublish_queueEffect {o : Operands} {s t : State} (h : execPublish o s = .next t) :
    QueueEffect (.publish o) s t := by
  obtain ⟨-, -, -, -, -, -, u, hu, rfl⟩ := execPublish_next.1 h
  rcases publish_ok.1 hu with ⟨hnone, rfl⟩ | ⟨-, rfl⟩
  · exact .published rfl hnone _
  · exact .took rfl

/-- What each of the 168 instructions did to the queues, where it has a successor. -/
theorem exec_queueEffect {i : Instr} {s t : State} (h : exec i s = .next t) : QueueEffect i s t := by
  cases i with
  | terminate | rvTerminate => exact execTerminate_queueEffect h
  | publish => exact execPublish_queueEffect h
  | phantom => exact runPhantom_queueEffect rfl h
  | phantomNop => exact runPhantom_queueEffect (disc := 0) rfl h
  | phantomDebugPanic => exact runPhantom_queueEffect (disc := 1) rfl h
  | phantomPrintF => exact runPhantom_queueEffect (disc := 2) rfl h
  | phantomHintInput | rvHintinput => exact runPhantom_queueEffect (disc := 3) rfl h
  | phantomHintBits => exact runPhantom_queueEffect (disc := 4) rfl h
  | phantomCtStart => exact runPhantom_queueEffect (disc := 5) rfl h
  | phantomCtEnd => exact runPhantom_queueEffect (disc := 6) rfl h
  | phantomHintFinalExpBn254 => exact runPhantom_queueEffect (disc := 7) rfl h
  | phantomHintFinalExpBls12381 => exact runPhantom_queueEffect (disc := 8) rfl h
  | addRv32 | subRv32 | xorRv32 | orRv32 | andRv32 | sllRv32 | srlRv32 | sraRv32 | sltRv32 | sltuRv32 =>
    exact .took (execAlu_plain h).rest
  | loadbRv32 | loadhRv32 | loadwRv32 | loadbuRv32 | loadhuRv32 => exact .took (execLoad_plain h).rest
  | storebRv32 | storehRv32 | storewRv32 | rvSb | rvSh | rvSw => exact .took (execStore_plain h).rest
  | beqRv32 | bneRv32 | bltRv32 | bgeRv32 | bltuRv32 | bgeuRv32 | rvBeq | rvBne | rvBlt | rvBge | rvBltu | rvBgeu =>
    exact .took (execBranch_plain h).rest
  | jalRv32 | rvJal => exact .took (execJalRv32_plain h).rest
  | jalrRv32 | rvJalr => exact .took (execJalrRv32_plain h).rest
  | luiRv32 => exact .took (execLui_plain h).rest
  | auipcRv32 => exact .took (execAuipc_plain h).rest
  | mulRv32 | mulhRv32 | mulhsuRv32 | mulhuRv32 | divRv32 | divuRv32 | remRv32 | remuRv32 => exact .took (execMulDiv_plain h).rest
  | hintstorewRv32 | rvHintstorew => exact .took (execHintstorew_plain h).rest
  | revealRv32 | rvReveal => exact .took (execReveal_plain h).rest
  | keccak256Rv32 | rvKeccak256 => exact .took (execKeccak_plain h).rest
  | add256Rv32 | sub256Rv32 | xor256Rv32 | or256Rv32 | and256Rv32 | sll256Rv32 | srl256Rv32 | sra256Rv32 | slt256Rv32
  | sltu256Rv32 | mul256Rv32 | rvAdd256 | rvSub256 | rvXor256 | rvOr256 | rvAnd256 | rvSll256 | rvSrl256 | rvSra256 | rvSlt256
  | rvSltu256 | rvMul256 => exact .took (execInt256_plain h).rest
  | beq256Rv32 | bne256Rv32 | blt256Rv32 | bge256Rv32 | bltu256Rv32 | bgeu256Rv32 => exact .took (execBranch256_plain h).rest
  | addmodRv32 | submodRv32 | mulmodRv32 | divmodRv32 => exact .took (execModular_plain h).rest
  | iseqmodRv32 => exact .took (execIseqmod_plain h).rest
  | swAddNe => exact .took (execSwAddNe_plain h).rest
  | swDouble => exact .took (execSwDouble_plain h).rest
  | load => exact .took (execLoadNative_plain h).rest
  | store => exact .took (execStoreNative_plain h).rest
  | load2 => exact .took (execLoad2_plain h).rest
  | store2 => exact .took (execStore2_plain h).rest
  | shintw => exact .took (execShintw_plain h).rest
  | jal => exact .took (execJal_plain h).rest
  | beq | bne => exact .took (execNativeBranch_plain h).rest
  | castf => exact .took (execCastf_plain h).rest
  | addf => exact .took (execField_plain fieldAdd_known h).rest
  | subf => exact .took (execField_plain fieldSub_known h).rest
  | mulf => exact .took (execField_plain fieldMul_known h).rest
  | divf => exact .took (execField_plain fieldDiv_known h).rest
  | fe4add => exact .took (execExt_plain quarticAdd_known h).rest
  | fe4sub => exact .took (execExt_plain quarticSub_known h).rest
  | bbe4mul => exact .took (execExt_plain quarticMul_known h).rest
  | bbe4div => exact .took (execExt_plain quarticDiv_known h).rest
  | compressPoseidon2 => exact .took (execCompress_plain h).rest
  | permPoseidon2 => exact .took (execPerm_plain h).rest
  | rvAdd | rvSub | rvXor | rvOr | rvAnd | rvSll | rvSrl | rvSra | rvSlt | rvSltu | rvAddi | rvXori | rvOri | rvAndi | rvSlli
  | rvSrli | rvSrai | rvSlti | rvSltiu => exact .took (runUnlessX0_plain execAlu_plain h).rest
  | rvLb | rvLh | rvLw | rvLbu | rvLhu => exact .took (runUnlessX0_plain execLoad_plain h).rest
  | rvLui => exact .took (runUnlessX0_plain execLui_plain h).rest
  | rvAuipc => exact .took (runUnlessX0_plain execAuipc_plain h).rest
  | rvMul | rvMulh | rvMulhsu | rvMulhu | rvDiv | rvDivu | rvRem | rvRemu =>
    exact .took (runUnlessX0_plain execMulDiv_plain h).rest
  | rvBeq256 | rvBne256 | rvBlt256 | rvBge256 | rvBltu256 | rvBgeu256 =>
    exact .took (runBranch256_plain (fun _ => execBranch256_plain) h).rest
  | rvAddmod | rvSubmod | rvMulmod | rvDivmod => exact .took (runModulus_plain (fun _ => execModular_plain) h).rest
  | rvIseqmod => exact .took (execRvIseqmod_plain h).rest
  | rvSwAddNe => exact .took (runCurve_plain (fun _ => execSwAddNe_plain) h).rest
  | rvSwDouble => exact .took (runCurve_plain (fun _ => execSwDouble_plain) h).rest

/-! ### Each component in turn -/

namespace QueueEffect

variable {i : Instr} {s t : State}

theorem of_inputStream_ne (h : QueueEffect i s t) (hne : t.inputStream ≠ s.inputStream) : discriminant? i = some 3 := by
  cases h with
  | took h => exact absurd (by rw [h]) hne
  | hintInput hi => exact hi
  | ended | logged | hintBits | published => exact absurd rfl hne

theorem of_hintStream_ne (h : QueueEffect i s t) (hne : t.hintStream ≠ s.hintStream) :
    discriminant? i = some 3 ∨ discriminant? i = some 4 ∨ hintsTaken i ≠ 0 := by
  cases h with
  | took h => exact .inr (.inr fun h0 => hne (by rw [h, h0, List.drop_zero]))
  | hintInput hi => exact .inl hi
  | hintBits hi => exact .inr (.inl hi)
  | ended | logged | published => exact absurd rfl hne

theorem of_publicValues_ne (h : QueueEffect i s t) (hne : t.publicValues ≠ s.publicValues) : ∃ o, i = .publish o := by
  cases h with
  | took h => exact absurd (by rw [h]) hne
  | published hi => exact ⟨_, hi⟩
  | ended | logged | hintInput | hintBits => exact absurd rfl hne

/-- A public value, once fixed, is fixed for good: only an unset one is fixed (R55, R436). -/
theorem publicValue_kept (h : QueueEffect i s t) {k v : Nat} (hk : s.publicValues.get? k = some v) :
    t.publicValues.get? k = some v := by
  cases h with
  | took h => rw [h]; exact hk
  | @published _ j _ _ hnone =>
    have hjk : j ≠ k := by rintro rfl; rw [hnone] at hk; cases hk
    rw [NatMap.get?_insert, if_neg hjk, hk]
  | ended | logged | hintInput | hintBits => exact hk

theorem of_hostLog_ne (h : QueueEffect i s t) (hne : t.hostLog ≠ s.hostLog) :
    ∃ disc ∈ [2, 5, 6], discriminant? i = some disc := by
  cases h with
  | took h => exact absurd (by rw [h]) hne
  | logged hd hi => exact ⟨_, hd, hi⟩
  | ended | hintInput | hintBits | published => exact absurd rfl hne

theorem hostLog_grows (h : QueueEffect i s t) : ∃ l, t.hostLog = s.hostLog ++ l := by
  cases h with
  | took h => exact ⟨[], by rw [h, List.append_nil]⟩
  | logged _ _ ev => exact ⟨[ev], rfl⟩
  | ended | hintInput | hintBits | published => exact ⟨[], (List.append_nil _).symm⟩

theorem of_draws_ne (h : QueueEffect i s t) (hne : t.draws ≠ s.draws) : choicesMade i ≠ 0 := by
  cases h with
  | took h => exact fun h0 => hne (by rw [h, h0, Nat.add_zero])
  | ended | logged | hintInput | hintBits | published => exact absurd rfl hne

theorem draws_le (h : QueueEffect i s t) : s.draws ≤ t.draws := by
  cases h with
  | took h => rw [h]; exact Nat.le_add_right _ _
  | ended | logged | hintInput | hintBits | published => exact le_rfl

end QueueEffect

end Sys2Proof.Machine

namespace Sys2Proof

open Machine

/-- Settles O15: each component changes by one kind of effect only, and the tables name the instructions that have it. -/
theorem queuesAndSinksChangeOnlyByTheirInstructions : Obligations.QueuesAndSinksChangeOnlyByTheirInstructions := by
  intro i s t h
  have he := exec_queueEffect h
  refine ⟨fun hne => of_discriminant_three (he.of_inputStream_ne hne), fun hne => ?_, he.of_publicValues_ne,
    fun _ _ => he.publicValue_kept, fun hne => ?_, he.hostLog_grows, fun hne => of_choicesMade (he.of_draws_ne hne), he.draws_le⟩
  · rcases he.of_hintStream_ne hne with hi | hi | hi
    · rcases of_discriminant_three hi with hi | hi | hi <;> simp [hi]
    · rcases of_discriminant_four hi with hi | hi <;> simp [hi]
    · rcases of_hintsTaken hi with hi | hi | hi <;> simp [hi]
  · obtain ⟨disc, hd, hi⟩ := he.of_hostLog_ne hne
    exact of_discriminant_log hd hi

end Sys2Proof
end

section
/-!
PROOF. One step: the fetch that stops, the fetch that runs an instruction, and a step after one instruction was loaded.
-/

namespace Sys2Proof.Machine

section step

variable {s : State} {e : RomEntry} {i j : Instr} {cause : Fault}

theorem step_of_decode (hs : s.status = .running) (hr : s.rejection = none) (hp : s.pc < 2 ^ 30)
    (he : s.prog.get? s.pc = some e) (hd : decode s.cfg e = some i) : step s = exec i s := by
  simp only [step, fetch_next.2 ⟨hs, hr, hp, e, he, hd⟩]

/-- After the end of the run the machine takes no step (R56, R181). -/
theorem step_of_ended (hs : s.status ≠ .running) : step s = .refused .runEnded := by
  simp only [step, State.fetch, if_neg hs]

theorem step_of_fetch_fault (h : s.fetch = .fault cause) : step s = .fault cause := by simp only [step, h]

/-- The ROM is defined on program locations only, and there not on all (R58). -/
theorem fetch_of_outside (hs : s.status = .running) (hr : s.rejection = none) (h : 2 ^ 30 ≤ s.pc ∨ s.prog.get? s.pc = none) :
    s.fetch = .fault .fetchOutsideProgram := by
  simp only [State.fetch, if_pos hs, hr]
  rcases h with hp | he
  · rw [if_neg (Nat.not_lt.2 hp)]
  · simp only [he, ite_self]

theorem fetch_of_undecodable {u : Tuple} (hs : s.status = .running) (hr : s.rejection = none) (hp : s.pc < 2 ^ 30)
    (he : s.prog.get? s.pc = some (.tuple u)) (hd : decode s.cfg (.tuple u) = none) : s.fetch = .fault .unknownOpcode := by
  simp only [State.fetch, if_pos hs, hr, if_pos hp, he, decodeEntry, hd]

/-- An opcode that the configuration gives to no mnemonic has no instruction (R129). -/
theorem decode_tuple_of_no_op {cfg : Config} {u : Tuple} (h : ∀ op, (u.opcode % cfg.p, op) ∉ cfg.opcodes) :
    decode cfg (.tuple u) = none := by
  have hop : opOf cfg.opcodes (u.opcode % cfg.p) = none :=
    Option.eq_none_iff_forall_not_mem.2 fun op hmem => h op (mem_of_opOf hmem)
  simp only [decode, decodeTuple, hop]

/-! ### Loading one instruction -/

theorem entryRejection_of_transpile {cfg : Config} (hd : decode cfg e = some i) (ht : transpile cfg i = .ok j) :
    entryRejection cfg e = none := by
  cases e with
  | tuple u => rfl
  | riscv w =>
    have hw : decodeWord w = some i := hd
    simp only [entryRejection, hw, ht]

/-- Placing an entry that the transpiler accepts leaves the program accepted (R476). -/
theorem withEntry_rejection (hr : s.rejection = none) (he : entryRejection s.cfg e = none) :
    (s.withEntry e).rejection = none := by
  refine rejection_eq_none.2 fun x hx => ?_
  rcases NatMap.mem_insert hx with rfl | hx
  · exact he
  · exact rejection_eq_none.1 hr x hx

end step

end Sys2Proof.Machine

namespace Sys2Proof

open Machine

/-- Settles O5. -/
theorem stepRunsTheDecodedInstruction : Obligations.StepRunsTheDecodedInstruction :=
  fun _ _ _ hs hr hp he hd => step_of_decode hs hr hp he hd

/-- Settles O6: the fetch checks the status, the program, the location and the opcode, in this order. -/
theorem stepStopsWithoutAnInstruction : Obligations.StepStopsWithoutAnInstruction := by
  refine fun s => ⟨step_of_ended, fun _ => step_of_rejected, fun hs hr h => ?_, fun u hs hr hp he hop => ?_⟩
  · exact step_of_fetch_fault (fetch_of_outside hs hr h)
  · exact step_of_fetch_fault (fetch_of_undecodable hs hr hp he (decode_tuple_of_no_op hop))

/-- Settles O7: the placed entry is accepted by the transpiler, so the program still is, and it is the one fetched. -/
theorem stepAfterLoadingRunsTheTableWord : Obligations.StepAfterLoadingRunsTheTableWord := by
  intro s nbits w i j hs hr hp hcfg hd ht
  have hdecode : decode s.cfg (entryOfBits nbits w) = some i := hcfg ▸ hd
  have haccepted := withEntry_rejection hr (entryRejection_of_transpile hdecode ht)
  refine ⟨step_of_decode hs haccepted hp ?_ hdecode, rfl, fun k hk => ?_⟩
  · exact (NatMap.get?_insert _ _ _ _).trans (if_pos rfl)
  · exact (NatMap.get?_insert _ _ _ _).trans (if_neg hk.symm)

/-- Settles O8. -/
theorem launchStateIsAsStated : Obligations.LaunchStateIsAsStated := ⟨rfl, fun _ _ => reset_read _, rfl, fun _ => rfl⟩

/-- Settles O21: the word's code is the operand of `TERMINATE`, not sign-extended. -/
theorem terminateEndsTheRun : Obligations.TerminateEndsTheRun := by
  rintro s i code hop (rfl | ⟨imm, rfl, rfl⟩) <;> exact execTerminate_next.2 ⟨hop, ⟨rfl, rfl, rfl, rfl, rfl, rfl⟩, rfl⟩

end Sys2Proof
end

section
/-!
PROOF. The targets of transfers with their faults, and the RV32 branches.
-/

namespace Sys2Proof.Machine

/-! ### Targets -/

section targets

variable {s : State} {c : Nat}

theorem nativeJumpBy_of_lt (h : fadd s.cfg.p s.pc c < 2 ^ 30) :
    s.nativeJumpBy c = .ok { s with pc := fadd s.cfg.p s.pc c } :=
  nativeJumpBy_ok.2 ⟨h, rfl⟩

theorem nativeJumpBy_of_ge (h : 2 ^ 30 ≤ fadd s.cfg.p s.pc c) : s.nativeJumpBy c = .error .pcOutOfRange := by
  simp only [State.nativeJumpBy, State.setPc, require_not (Nat.not_lt.2 h), error_bind]

/-- The default step is the native transfer by 4 (R43). -/
theorem advance_eq_nativeJumpBy : s.advance = s.nativeJumpBy 4 := rfl

theorem advance_of_lt (hw : s.cfg.Wf) (h : s.pc + 4 < 2 ^ 30) : s.advance = .ok { s with pc := s.pc + 4 } := by
  have hpc := fadd_four hw h
  exact advance_ok.2 ⟨hpc.trans_lt h, by rw [hpc]⟩

theorem jumpBy_of_out_of_range (h : (s.pc : Int) + centred s.cfg.p c < 0 ∨ 2 ^ 30 ≤ (s.pc : Int) + centred s.cfg.p c) :
    s.jumpBy c = .error .pcOutOfRange := by
  have hrange : ¬ (0 ≤ (s.pc : Int) + centred s.cfg.p c ∧ (s.pc : Int) + centred s.cfg.p c < 2 ^ 30) := by omega
  simp only [State.jumpBy, require_not hrange, error_bind]

end targets

/-! ### The RV32 branches -/

/-- The six branches, with their mnemonics and conditions (R283 to R288). -/
def branchRows : List ((Operands → Instr) × Op × (Word → Word → Bool)) := [
  (.beqRv32, .beqRv32, fun x y => decide (x = y)),
  (.bneRv32, .bneRv32, fun x y => decide (x ≠ y)),
  (.bltRv32, .bltRv32, fun x y => decide (x.toInt < y.toInt)),
  (.bgeRv32, .bgeRv32, fun x y => decide (y.toInt ≤ x.toInt)),
  (.bltuRv32, .bltuRv32, fun x y => decide (x.toNat < y.toNat)),
  (.bgeuRv32, .bgeuRv32, fun x y => decide (y.toNat ≤ x.toNat))]

theorem condNe_eq {n : Nat} : (condNe : BitVec n → BitVec n → Bool) = fun x y => decide (x ≠ y) := by
  funext x y
  rw [decide_not]
  rfl

/-- Each branch is the skeleton of the branches on its condition. -/
theorem exec_branchRow {row : (Operands → Instr) × Op × (Word → Word → Bool)} (h : row ∈ branchRows) (o : Operands) (s : State) :
    exec (row.1 o) s = execBranch row.2.1 row.2.2 o s := by
  simp only [branchRows, List.mem_cons, List.not_mem_nil, or_false] at h
  rcases h with rfl | rfl | rfl | rfl | rfl | rfl
  case inr.inl => exact congrArg (execBranch .bneRv32 · o s) condNe_eq
  all_goals rfl

/-- A branch whose operands are legal and whose registers hold values jumps or steps. -/
theorem execBranch_of_holds {op : Op} {cond : Word → Word → Bool} {s : State} {a b c : Nat} {x y : Word}
    (hop : opEnabled s.cfg op = true) (hw : s.cfg.Wf) (hc : BranchOffset s.cfg.p c) (hx : s.Holds a x) (hy : s.Holds b y) :
    execBranch op cond ⟨a, b, c, 1, 1, 0, 0⟩ s = outcome (if cond x y then s.jumpBy c else s.advance) := by
  have hop' : s.requireOp op = .ok () := requireOp_ok.2 hop
  simp only [execBranch, hop', require_of hc, reg32_of_holds hw hx, reg32_of_holds hw hy, require_of, ok_bind, and_self]

end Sys2Proof.Machine

namespace Sys2Proof

open Machine

/-- Settles O33: a branch jumps or steps by its condition, and only the jump depends on the target. -/
theorem branchOutOfRangeFaults : Obligations.BranchOutOfRangeFaults := by
  intro row hrow s a b c x y hop hw hc hx hy htarget
  have hexec := (exec_branchRow hrow ⟨a, b, c, 1, 1, 0, 0⟩ s).trans (execBranch_of_holds hop hw hc hx hy)
  refine ⟨fun htaken => ?_, fun hnot hpc => ?_⟩
  · rw [hexec, if_pos htaken, jumpBy_of_out_of_range htarget]
    rfl
  · rw [hexec, hnot, if_neg Bool.false_ne_true, advance_of_lt hw hpc]
    rfl

end Sys2Proof
end

section
/-!
PROOF. Native `JAL`, `BEQ<W>`, `BNE<W>` and `PUBLISH`: what each runs to once its checks pass, then its next state or its fault.
-/

namespace Sys2Proof.Machine

section native

variable {s : State} {a b c d e w k v : Nat} {op : Op} {sense : Bool}

/-! ### `JAL` -/

/-- A `JAL` whose operands pass their checks writes the link cell, then jumps (R435). -/
theorem execJal_of_legal (hop : opEnabled s.cfg .jal = true) (hd : ValidSpace s.cfg d) (hb : NativeOffset s.cfg b)
    (ha : s.Fits a 1) : execJal ⟨a, b, 0, d, 0, 0, 0⟩ s =
      outcome (({ s with mem := s.mem.writeCells d a [s.nextPc] } : State).nativeJumpBy b) := by
  have hop' : s.requireOp .jal = .ok () := requireOp_ok.2 hop
  have hlink : s.memWrite d a [s.nextPc] = .ok { s with mem := s.mem.writeCells d a [s.nextPc] } :=
    memWrite_ok.2 ⟨⟨hd, ha⟩, rfl⟩
  simp only [execJal, hop', require_of hd, require_of hb, hlink, require_of, ok_bind, and_self]

/-- The offset is checked before any access (D30; log 21). -/
theorem execJal_of_bad_offset (hop : opEnabled s.cfg .jal = true) (hd : ValidSpace s.cfg d) (hb : ¬ NativeOffset s.cfg b) :
    execJal ⟨a, b, 0, d, 0, 0, 0⟩ s = .fault .badOperand := by
  have hop' : s.requireOp .jal = .ok () := requireOp_ok.2 hop
  simp only [execJal, hop', require_of hd, require_not hb, require_of, ok_bind, error_bind, and_self, outcome]

theorem nextPc_of_lt (hw : s.cfg.Wf) (hp : s.pc < 2 ^ 30) : s.nextPc = s.pc + 4 :=
  Nat.mod_eq_of_lt (by have := Config.Wf.prime_gt hw; omega)

/-! ### The native branches -/

/-- The block sizes of the enabled branches are supported (R8, R421). -/
theorem supported_of_width {w : Nat} {cfg : Config} (hw : cfg.Wf) (h : cfg.widths.contains w = true) : w ∈ supportedBlocks := by
  obtain ⟨-, -, -, -, -, -, -, -, -, hwidths, -⟩ := hw
  exact hwidths w (List.contains_iff_mem.1 h)

theorem readCells_eq_iff {m : Memory} {sp sp' q q' n : Nat} :
    m.readCells sp q n = m.readCells sp' q' n ↔ ∀ k < n, m.read ⟨sp, q + k⟩ = m.read ⟨sp', q' + k⟩ := by
  simp [Memory.readCells]

/-- A native branch whose operands pass their checks moves `pc` by its offset or by 4 (R437, R438). -/
theorem execNativeBranch_of_legal (hop : opEnabled s.cfg op = true) (hd : ValidSpace s.cfg d) (he : ValidSpace s.cfg e)
    (hc : NativeOffset s.cfg c) (ha : s.BlockOk d a w) (hb : s.BlockOk e b w) :
    execNativeBranch op sense w ⟨a, b, c, d, e, 0, 0⟩ s = outcome (s.nativeJumpBy
      (if decide (s.mem.readCells d a w = s.mem.readCells e b w) = sense then c else 4)) := by
  have hop' : s.requireOp op = .ok () := requireOp_ok.2 hop
  have hspaces : s.nativeSpaces d e = .ok () := nativeSpaces_ok.2 ⟨hd, he⟩
  have hx : s.blockRead d a w = .ok _ := blockRead_ok.2 ⟨ha, rfl⟩
  have hy : s.blockRead e b w = .ok _ := blockRead_ok.2 ⟨hb, rfl⟩
  simp only [execNativeBranch, hop', hspaces, noFG, require_of hc, hx, hy, require_of, ok_bind, and_self,
    advance_eq_nativeJumpBy, apply_ite s.nativeJumpBy]

/-- The offset is checked before the blocks are read, whether or not the branch is taken (D30; log 21). -/
theorem execNativeBranch_of_bad_offset (hop : opEnabled s.cfg op = true) (hd : ValidSpace s.cfg d) (he : ValidSpace s.cfg e)
    (hc : ¬ NativeOffset s.cfg c) : execNativeBranch op sense w ⟨a, b, c, d, e, 0, 0⟩ s = .fault .badOperand := by
  have hop' : s.requireOp op = .ok () := requireOp_ok.2 hop
  have hspaces : s.nativeSpaces d e = .ok () := nativeSpaces_ok.2 ⟨hd, he⟩
  simp only [execNativeBranch, hop', hspaces, noFG, require_not hc, require_of, ok_bind, error_bind, and_self, outcome]

/-- The premises on memory of a native branch: two blocks in valid spaces, within the pointer range and aligned. -/
structure BranchBlocks (s : State) (w a b d e : Nat) : Prop where
  spaces : ValidSpace s.cfg d ∧ ValidSpace s.cfg e
  left : a % w = 0 ∧ s.Fits a w
  right : b % w = 0 ∧ s.Fits b w

/-- What a native branch does, where `taken` says whether the comparison of the blocks answers `sense`. -/
theorem BranchBlocks.compares {taken : Bool} (h : BranchBlocks s w a b d e) (hop : opEnabled s.cfg op = true)
    (hsize : w ∈ supportedBlocks)
    (htaken : taken = true ↔ decide (s.mem.readCells d a w = s.mem.readCells e b w) = sense) :
    (∀ q, NativeOffset s.cfg c → q = (s.pc + if taken then c else 4) % s.cfg.p → q < 2 ^ 30 →
      execNativeBranch op sense w ⟨a, b, c, d, e, 0, 0⟩ s = .next { s with pc := q }) ∧
    (NativeOffset s.cfg c → 2 ^ 30 ≤ (s.pc + if taken then c else 4) % s.cfg.p →
      execNativeBranch op sense w ⟨a, b, c, d, e, 0, 0⟩ s = .fault .pcOutOfRange) ∧
    (¬ NativeOffset s.cfg c → execNativeBranch op sense w ⟨a, b, c, d, e, 0, 0⟩ s = .fault .badOperand) := by
  obtain ⟨⟨hd, he⟩, ⟨ha, hfa⟩, ⟨hb, hfb⟩⟩ := h
  have hexec (hc : NativeOffset s.cfg c) : execNativeBranch op sense w ⟨a, b, c, d, e, 0, 0⟩ s =
      outcome (s.nativeJumpBy (if taken then c else 4)) := by
    rw [execNativeBranch_of_legal hop hd he hc ⟨⟨hd, hfa⟩, hsize, ha⟩ ⟨⟨he, hfb⟩, hsize, hb⟩]
    simp only [htaken]
  refine ⟨?_, fun hc hq => ?_, execNativeBranch_of_bad_offset hop hd he⟩
  · rintro q hc rfl hq
    rw [hexec hc, nativeJumpBy_of_lt hq]
    rfl
  · rw [hexec hc, nativeJumpBy_of_ge hq]
    rfl

/-! ### `PUBLISH` -/

/-- A `PUBLISH` whose operands pass their checks compares the index, then fixes or checks the value (R436). -/
theorem execPublish_of_legal (hop : opEnabled s.cfg .publish = true) (hd : ValidSpace s.cfg d) (he : ValidSpace s.cfg e)
    (ha : s.Fits a 1) (hb : s.Fits b 1) (hk : s.mem.read ⟨d, a⟩ = k) (hv : s.mem.read ⟨e, b⟩ = v) :
    execPublish ⟨a, b, 0, d, e, 0, 0⟩ s = outcome (do
      require (k < s.cfg.numPublicValues) .publicIndexOutOfRange
      let s' ← s.publish k v
      s'.advance) := by
  have hop' : s.requireOp .publish = .ok () := requireOp_ok.2 hop
  have hspaces : s.nativeSpaces d e = .ok () := nativeSpaces_ok.2 ⟨hd, he⟩
  have hi : s.cellRead d a = .ok k := cellRead_ok.2 ⟨⟨hd, ha⟩, hk⟩
  have hx : s.cellRead e b = .ok v := cellRead_ok.2 ⟨⟨he, hb⟩, hv⟩
  simp only [execPublish, hop', hspaces, noFG, hi, hx, require_of, ok_bind, and_self]

/-- Another value than the fixed one is refused (R436). -/
theorem publish_of_mismatch {u : Nat} (h : s.publicValues.get? k = some u) (hne : u ≠ v) :
    s.publish k v = .error .publishMismatch := by
  simp only [State.publish, h, require_not hne, error_bind]

end native

end Sys2Proof.Machine

namespace Sys2Proof

open Machine

/-- Settles O53. -/
theorem nativeJalLinksAndSetsPc : Obligations.NativeJalLinksAndSetsPc := by
  intro s a b d hw hop hpc hd ha
  refine ⟨fun hb hq => ?_, fun hb hq => ?_, execJal_of_bad_offset hop hd, nativeTarget_iff hw.1 hpc⟩
  · refine ⟨_, execJal_next.2 ⟨hop, rfl, hd, ⟨rfl, rfl, rfl⟩, hb, ⟨hd, ha⟩, hq, rfl⟩, wrote_of_row rfl fun k hk => ?_⟩
    obtain rfl : k = 0 := by omega
    exact nextPc_of_lt hw hpc
  · have hjump := nativeJumpBy_of_ge (s := { s with mem := s.mem.writeCells d a [s.nextPc] }) hq
    exact (execJal_of_legal hop hd hb ha).trans (congrArg outcome hjump)

/-- Settles O54: both branches compare the blocks, and answer `true` and `false` of the comparison. -/
theorem nativeBranchesCompareBlocks : Obligations.NativeBranchesCompareBlocks := by
  intro s w a b c d e same hw hd he ha hfa hb hfb hsame row hrow hop
  have h : BranchBlocks s w a b d e := ⟨⟨hd, he⟩, ⟨ha, hfa⟩, ⟨hb, hfb⟩⟩
  have hcells : same = decide (s.mem.readCells d a w = s.mem.readCells e b w) := by
    rw [Bool.eq_iff_iff, hsame, decide_eq_true_iff, readCells_eq_iff]
  simp only [List.mem_cons, List.not_mem_nil, or_false] at hrow
  rcases hrow with rfl | rfl
  · exact h.compares hop (supported_of_width hw (Bool.and_eq_true_iff.1 hop).2) (by rw [hcells])
  · exact h.compares hop (supported_of_width hw (Bool.and_eq_true_iff.1 hop).2) (by rw [hcells, Bool.not_eq_true'])

/-- Settles O55: the index is compared first, then the value with the one already fixed, if any. -/
theorem publishFixesThePublicValue : Obligations.PublishFixesThePublicValue := by
  intro s a b d e k v hr hd he ha hb hk hv
  obtain ⟨hw, hop, hpc⟩ := hr
  have hexec := execPublish_of_legal hop hd he ha hb hk hv
  refine ⟨fun hlarge => ?_, fun hlt => ⟨fun hnone => ?_, fun hsome => ?_, fun u hsome hne => ?_⟩⟩
  · refine hexec.trans ?_
    rw [require_not (Nat.not_lt.2 hlarge)]
    rfl
  · have hinsert : s.publish k v = .ok { s with publicValues := s.publicValues.insert k v } :=
      publish_ok.2 (.inl ⟨hnone, rfl⟩)
    have hstep := advance_of_lt (s := { s with publicValues := s.publicValues.insert k v }) hw hpc
    refine ⟨{ s with pc := s.pc + 4, publicValues := s.publicValues.insert k v }, hexec.trans ?_, rfl, fun j => ?_⟩
    · rw [require_of hlt, ok_bind, hinsert, ok_bind, hstep]
      rfl
    · rw [NatMap.get?_insert]
      exact if_congr eq_comm rfl rfl
  · have hsame : s.publish k v = .ok s := publish_ok.2 (.inr ⟨hsome, rfl⟩)
    refine hexec.trans ?_
    rw [require_of hlt, ok_bind, hsame, ok_bind, advance_of_lt hw hpc]
    rfl
  · refine hexec.trans ?_
    rw [require_of hlt, ok_bind, publish_of_mismatch hsome hne]
    rfl

end Sys2Proof
end

section
/-!
PROOF. Decoding undoes encoding: the tuple of an axVM instruction and the word of a RISC-V instruction denote it.
-/

namespace Sys2Proof

/-! ### Tuples -/

section tuples

variable {cfg : Config} {i : Instr} {op : Op} {o : Operands} {q : PhantomOperands} {p disc : Nat}

/-- Field elements are their own representatives. -/
theorem canon_of_areFelts (h : o.areFelts p = true) : o.canon p = o := by
  simp only [Operands.areFelts, Bool.and_eq_true, decide_eq_true_eq, and_assoc] at h
  obtain ⟨ha, hb, hc, hd, he, hf, hg⟩ := h
  simp only [Operands.canon, Nat.mod_eq_of_lt, *]

/-- A discriminant fills the low 16 bits of `c` (R190). -/
theorem toPhantom_toOperands (hd : disc < 65536) : (q.toOperands disc).toPhantom = q := by
  have hupper : (q.cUpper * 65536 + disc) / 65536 = q.cUpper := by omega
  simp only [PhantomOperands.toOperands, Operands.toPhantom, hupper]

theorem toOperands_c_mod (hd : disc < 65536) : (q.toOperands disc).c % 65536 = disc := by
  simp only [PhantomOperands.toOperands]
  omega

/-- A discriminant that is not assigned selects `PHANTOM` itself (R198). -/
theorem decodePhantom_of_unassigned (h : 9 ≤ o.c % 65536) : decodePhantom o = .phantom o := by
  unfold decodePhantom
  split <;> first | omega | rfl

/-- The operands of an encodable instruction are field elements (R120). -/
theorem areFelts_of_encodable (ho : i.operands = some o) (h : i.encodable cfg = true) : o.areFelts cfg.p = true := by
  cases i with
  | phantom | storewRv32 | revealRv32 => cases ho; exact (Bool.and_eq_true_iff.1 h).1
  | _ => cases ho <;> exact h

/-- An encodable instruction is the one that its mnemonic and its operands denote. -/
theorem ofOp_eq_of_encodable (hop : i.op = some op) (ho : i.operands = some o) (h : i.encodable cfg = true) :
    Instr.ofOp op o = i := by
  cases i with
  | phantom o =>
    cases hop; cases ho
    exact decodePhantom_of_unassigned (of_decide_eq_true (Bool.and_eq_true_iff.1 h).2)
  | phantomNop q | phantomDebugPanic q | phantomPrintF q | phantomHintInput q | phantomHintBits q | phantomCtStart q
  | phantomCtEnd q | phantomHintFinalExpBn254 q | phantomHintFinalExpBls12381 q =>
    cases hop; cases ho
    simp [Instr.ofOp, decodePhantom, toOperands_c_mod, toPhantom_toOperands]
  | storewRv32 o =>
    cases hop; cases ho
    exact if_neg (by simpa using (Bool.and_eq_true_iff.1 h).2)
  | revealRv32 o =>
    cases hop; cases ho
    exact if_pos (by simpa using (Bool.and_eq_true_iff.1 h).2)
  | _ => cases hop <;> cases ho <;> rfl

/-- Where a mnemonic has an opcode, the tuple of that opcode and of operands that are field elements denotes the instruction. -/
theorem decode_encode_tuple (hw : cfg.Wf) (hop : i.op = some op) (ho : i.operands = some o) (h : i.encodable cfg = true)
    (hmem : op ∈ cfg.opcodes.map (·.2)) : ∃ e, encode cfg i = some e ∧ decode cfg e = some i := by
  obtain ⟨k, hk⟩ := opcodeOf_of_mem hmem
  obtain ⟨-, -, -, -, -, -, hnodup, -, hlt, -⟩ := hw
  obtain ⟨hopOf, hpair⟩ := opOf_opcodeOf hnodup hk
  have hcanon : k % cfg.p = k := Nat.mod_eq_of_lt (hlt _ hpair)
  refine ⟨.tuple ⟨k, o⟩, by simp only [encode, hop, ho, hk], ?_⟩
  simp only [decode, decodeTuple, hcanon, hopOf, canon_of_areFelts (areFelts_of_encodable ho h),
    ofOp_eq_of_encodable hop ho h]

end tuples

/-! ### Words -/

section words

open Laws.RoundTrip

variable {cfg : Config} {i : Instr} {w : Word}

/-- Every instruction has operands of a tuple under a mnemonic, or a word. -/
theorem op_operands_or_word (i : Instr) :
    (∃ op o, i.op = some op ∧ i.operands = some o) ∨ i.op = none ∧ ∃ w, encodeWord i = some w := by
  cases i <;> first | exact .inl ⟨_, _, rfl, rfl⟩ | exact .inr ⟨rfl, _, rfl⟩

theorem word_roundTrip (i : Instr) (hi : i.op = none) : Statement i := by
  cases i with
  | rvAdd => apply rvAdd | rvSub => apply rvSub | rvXor => apply rvXor | rvOr => apply rvOr | rvAnd => apply rvAnd
  | rvSll => apply rvSll | rvSrl => apply rvSrl | rvSra => apply rvSra | rvSlt => apply rvSlt | rvSltu => apply rvSltu
  | rvAddi => apply rvAddi | rvXori => apply rvXori | rvOri => apply rvOri | rvAndi => apply rvAndi | rvSlli => apply rvSlli
  | rvSrli => apply rvSrli | rvSrai => apply rvSrai | rvSlti => apply rvSlti | rvSltiu => apply rvSltiu | rvLb => apply rvLb
  | rvLh => apply rvLh | rvLw => apply rvLw | rvLbu => apply rvLbu | rvLhu => apply rvLhu | rvSb => apply rvSb
  | rvSh => apply rvSh | rvSw => apply rvSw | rvBeq => apply rvBeq | rvBne => apply rvBne | rvBlt => apply rvBlt
  | rvBge => apply rvBge | rvBltu => apply rvBltu | rvBgeu => apply rvBgeu | rvJal => apply rvJal | rvJalr => apply rvJalr
  | rvLui => apply rvLui | rvAuipc => apply rvAuipc | rvMul => apply rvMul | rvMulh => apply rvMulh
  | rvMulhsu => apply rvMulhsu | rvMulhu => apply rvMulhu | rvDiv => apply rvDiv | rvDivu => apply rvDivu
  | rvRem => apply rvRem | rvRemu => apply rvRemu | rvTerminate => apply rvTerminate | rvHintstorew => apply rvHintstorew
  | rvReveal => apply rvReveal | rvHintinput => apply rvHintinput | rvKeccak256 => apply rvKeccak256
  | rvAdd256 => apply rvAdd256 | rvSub256 => apply rvSub256 | rvXor256 => apply rvXor256 | rvOr256 => apply rvOr256
  | rvAnd256 => apply rvAnd256 | rvSll256 => apply rvSll256 | rvSrl256 => apply rvSrl256 | rvSra256 => apply rvSra256
  | rvSlt256 => apply rvSlt256 | rvSltu256 => apply rvSltu256 | rvBeq256 => apply rvBeq256 | rvBne256 => apply rvBne256
  | rvBlt256 => apply rvBlt256 | rvBge256 => apply rvBge256 | rvBltu256 => apply rvBltu256 | rvBgeu256 => apply rvBgeu256
  | rvMul256 => apply rvMul256 | rvAddmod => apply rvAddmod | rvSubmod => apply rvSubmod | rvMulmod => apply rvMulmod
  | rvDivmod => apply rvDivmod | rvIseqmod => apply rvIseqmod | rvSwAddNe => apply rvSwAddNe | rvSwDouble => apply rvSwDouble
  | _ => nomatch hi

theorem decode_encode_word (hop : i.op = none) (hw : encodeWord i = some w) :
    ∃ e, encode cfg i = some e ∧ decode cfg e = some i :=
  ⟨.riscv w, by simp only [encode, hop, hw], word_roundTrip i hop w hw⟩

end words
/-- Settles O2: a tuple has its operands in canonical form, and a word is packed from the fields the decoder reads. -/
theorem decodeOfEncodeIsTheInstruction : Obligations.DecodeOfEncodeIsTheInstruction := by
  intro cfg i hw h hmem
  rcases op_operands_or_word i with ⟨op, o, hop, ho⟩ | ⟨hop, w, hword⟩
  · exact decode_encode_tuple hw hop ho h (hmem op hop)
  · exact decode_encode_word hop hword

/-- Settles O1: each word and tuple is decoded by computation. -/
theorem writtenOutWordsDecode : Obligations.WrittenOutWordsDecode := by
  refine ⟨rfl, rfl, rfl, rfl, rfl, rfl, rfl, rfl, rfl, rfl, rfl, rfl, rfl, rfl, ?_, ?_⟩ <;> decide +kernel

end Sys2Proof
end

section
/-!
PROOF. Encoding undoes decoding: a word that decodes is the word of its instruction, up to the ignored register fields (D38).
-/

namespace Sys2Proof

section words

variable {w : Word} {f7 : BitVec 7} {rs2 rs1 rd : BitVec 5} {f3 k : BitVec 3} {imm : BitVec 12} {idx : BitVec 4}

/-- The answer of a decoder, where there is one, has the word `w`. -/
def HasWord (r : Option Instr) (w : Word) : Prop := ∀ i ∈ r, encodeWord i = some w

@[simp] theorem hasWord_none : HasWord none w := fun _ h => nomatch h

@[simp] theorem hasWord_some {i : Instr} : HasWord (some i) w ↔ encodeWord i = some w := by simp [HasWord]

theorem HasWord.of_eq {r : Option Instr} {v : Word} (h : HasWord r v) (hv : v = w) : HasWord r w := hv ▸ h

@[simp] theorem hasWord_ite {c : Prop} [Decidable c] {r r' : Option Instr} :
    HasWord (if c then r else r') w ↔ (c → HasWord r w) ∧ (¬ c → HasWord r' w) := by
  by_cases h : c <;> simp [h]

theorem decodeOp_hasWord : HasWord (decodeOp f7.toNat f3.toNat rd rs1 rs2) (packWord f7 rs2 rs1 f3 rd 0x33) := by
  unfold decodeOp
  split <;> simp_all [BitVec.toNat_eq_nat, encodeWord]

theorem split_7_idx (x : BitVec 7) : x.extractLsb' 3 4 ++ x.extractLsb' 0 3 = x := by revert x; decide

@[simp] theorem packI_append {opc : BitVec 7} : packI (f7 ++ rs2) rs1 f3 rd opc = packWord f7 rs2 rs1 f3 rd opc := by
  rw [packI, extract_high, extract_low]

theorem decodeOpImm_hasWord :
    HasWord (decodeOpImm f7.toNat f3.toNat rd rs1 rs2 (f7 ++ rs2)) (packWord f7 rs2 rs1 f3 rd 0x13) := by
  unfold decodeOpImm
  split <;> simp_all [BitVec.toNat_eq_nat, encodeWord]

theorem decodeLoad_hasWord : HasWord (decodeLoad f3.toNat rd rs1 imm) (packI imm rs1 f3 rd 0x03) := by
  unfold decodeLoad
  split <;> simp_all [BitVec.toNat_eq_nat, encodeWord]

theorem decodeStore_hasWord : HasWord (decodeStore f3.toNat rs1 rs2 imm) (packS imm rs2 rs1 f3 0x23) := by
  unfold decodeStore
  split <;> simp_all [BitVec.toNat_eq_nat, encodeWord]

theorem decodeBranch_hasWord : HasWord (decodeBranch f3.toNat rs1 rs2 imm) (packB imm rs2 rs1 f3 0x63) := by
  unfold decodeBranch
  split <;> simp_all [BitVec.toNat_eq_nat, encodeWord]

theorem decodeInt256_hasWord : HasWord (decodeInt256 f7.toNat rd rs1 rs2) (packWord f7 rs2 rs1 5 rd 0x0B) := by
  unfold decodeInt256
  split <;> simp_all [BitVec.toNat_eq_nat, encodeWord]

theorem decodeModular_hasWord :
    HasWord (decodeModular k.toNat idx rd rs1 rs2) (packWord (idx ++ k) rs2 rs1 0 rd 0x2B) := by
  unfold decodeModular
  split <;> simp_all [BitVec.toNat_eq_nat, encodeWord]

theorem decodeCurve_hasWord :
    HasWord (decodeCurve k.toNat idx rd rs1 rs2) (packWord (idx ++ k) rs2 rs1 1 rd 0x2B) := by
  unfold decodeCurve
  split <;> simp_all [BitVec.toNat_eq_nat, encodeWord]

/-! ### Masks -/

@[simp] theorem rvFunct7_and (v : Word) : rvFunct7 (w &&& v) = rvFunct7 w &&& rvFunct7 v := BitVec.extractLsb'_and
@[simp] theorem rvRs2_and (v : Word) : rvRs2 (w &&& v) = rvRs2 w &&& rvRs2 v := BitVec.extractLsb'_and
@[simp] theorem rvRs1_and (v : Word) : rvRs1 (w &&& v) = rvRs1 w &&& rvRs1 v := BitVec.extractLsb'_and
@[simp] theorem rvFunct3_and (v : Word) : rvFunct3 (w &&& v) = rvFunct3 w &&& rvFunct3 v := BitVec.extractLsb'_and
@[simp] theorem rvRd_and (v : Word) : rvRd (w &&& v) = rvRd w &&& rvRd v := BitVec.extractLsb'_and
@[simp] theorem rvOpcode_and (v : Word) : rvOpcode (w &&& v) = rvOpcode w &&& rvOpcode v := BitVec.extractLsb'_and

theorem packWord_and {f7' : BitVec 7} {rs2' rs1' rd' : BitVec 5} {f3' : BitVec 3} {opc opc' : BitVec 7} :
    packWord f7 rs2 rs1 f3 rd opc &&& packWord f7' rs2' rs1' f3' rd' opc' =
      packWord (f7 &&& f7') (rs2 &&& rs2') (rs1 &&& rs1') (f3 &&& f3') (rd &&& rd') (opc &&& opc') := by
  rw [← packWord_fields (packWord f7 rs2 rs1 f3 rd opc &&& packWord f7' rs2' rs1' f3' rd' opc')]
  simp

/-- The bits that select the instruction of a word: `funct3` and the opcode (R143). -/
theorem and_selector : w &&& 0x707F#32 = packWord 0 0 0 (rvFunct3 w) 0 (rvOpcode w) := by
  have hmask : 0x707F#32 = packWord 0 0 0 7 0 127 := by decide
  have h3 : rvFunct3 w &&& 7#3 = rvFunct3 w := BitVec.and_allOnes
  have h7 : rvOpcode w &&& 127#7 = rvOpcode w := BitVec.and_allOnes
  conv_lhs => rw [← packWord_fields w, hmask, packWord_and]
  simp [h3, h7]

theorem and_selector_eq_iff {opc : BitVec 7} :
    w &&& 0x707F#32 = packWord 0 0 0 f3 0 opc ↔ rvFunct3 w = f3 ∧ rvOpcode w = opc := by
  rw [and_selector]
  refine ⟨fun h => ⟨?_, ?_⟩, fun ⟨h3, hopc⟩ => by rw [h3, hopc]⟩
  · simpa using congrArg rvFunct3 h
  · simpa using congrArg rvOpcode h

/-- The bits of a word that matter for its instruction: all but the ignored register fields (D38). -/
def careMask (w : Word) : Word :=
  if w &&& 0x0000707F#32 = 0x0000000B#32 then 0xFFF0707F#32
  else if w &&& 0x0000707F#32 = 0x0000100B#32 then 0xFFF07FFF#32
  else if w &&& 0x0000707F#32 = 0x0000300B#32 then 0xFFF0707F#32
  else 0xFFFFFFFF#32

/-- The mask keeps `funct7`, `funct3` and the opcode of every word. -/
theorem careMask_fields : rvFunct7 (careMask w) = 127 ∧ rvFunct3 (careMask w) = 7 ∧ rvOpcode (careMask w) = 127 := by
  unfold careMask
  split_ifs <;> decide

theorem packWord_of_selector {opc : BitVec 7} (h3 : rvFunct3 w = f3) (ho : rvOpcode w = opc) :
    packWord (rvFunct7 w) (rvRs2 w) (rvRs1 w) f3 (rvRd w) opc = w := h3 ▸ ho ▸ packWord_fields w

/-- `terminate` and `hintinput` ignore `rd` and `rs1`. -/
theorem and_careMask_of_terminate (h3 : rvFunct3 w = f3) (hf : f3 = 0 ∨ f3 = 3) (ho : rvOpcode w = 0x0B) :
    packI (immI w) 0 f3 0 0x0B &&& careMask w = w &&& careMask w := by
  have hmask : careMask w = packWord 127 31 0 7 0 127 := by
    rcases hf with rfl | rfl <;> simp only [careMask, and_selector, h3, ho] <;> decide
  rw [hmask, packI_immI]
  conv_rhs => rw [← packWord_of_selector h3 ho]
  simp [packWord_and]

/-- `hintstorew` ignores `rs1`. -/
theorem and_careMask_of_hintstorew (h3 : rvFunct3 w = 1) (ho : rvOpcode w = 0x0B) :
    packI (immI w) 0 1 (rvRd w) 0x0B &&& careMask w = w &&& careMask w := by
  have hmask : careMask w = packWord 127 31 0 7 31 127 := by
    simp only [careMask, and_selector, h3, ho]
    decide
  rw [hmask, packI_immI]
  conv_rhs => rw [← packWord_of_selector h3 ho]
  simp [packWord_and]

/-! ### The word of a decoded instruction -/

/-- The answer of a decoder, where there is one, has the word `w` up to the ignored fields. -/
def HasWordUpTo (r : Option Instr) (w : Word) : Prop :=
  ∀ i ∈ r, ∃ w', encodeWord i = some w' ∧ w' &&& careMask w = w &&& careMask w

theorem HasWord.upTo {r : Option Instr} (h : HasWord r w) : HasWordUpTo r w := fun i hi => ⟨w, h i hi, rfl⟩

theorem hasWordUpTo_some {i : Instr} {w' : Word} (h : encodeWord i = some w') (hmask : w' &&& careMask w = w &&& careMask w) :
    HasWordUpTo (some i) w := by
  rintro _ ⟨⟩
  exact ⟨w', h, hmask⟩

theorem decodeCustom0_hasWordUpTo (ho : rvOpcode w = 0x0B) : HasWordUpTo (decodeCustom0 w) w := by
  unfold decodeCustom0
  split
  case h_1 h => exact hasWordUpTo_some rfl (and_careMask_of_terminate (BitVec.eq_of_toNat_eq h) (.inl rfl) ho)
  case h_2 h => exact hasWordUpTo_some rfl (and_careMask_of_hintstorew (BitVec.eq_of_toNat_eq h) ho)
  case h_3 h =>
    have h3 : rvFunct3 w = 2 := BitVec.eq_of_toNat_eq h
    exact HasWord.upTo (by rw [hasWord_some, encodeWord, packI_immI, packWord_of_selector h3 ho])
  case h_4 h =>
    have h3 : rvFunct3 w = 3 := BitVec.eq_of_toNat_eq h
    split_ifs with himm
    · exact hasWordUpTo_some (by rw [encodeWord, ← himm]) (and_careMask_of_terminate h3 (.inr rfl) ho)
    · exact hasWord_none.upTo
  case h_5 h =>
    have h3 : rvFunct3 w = 4 := BitVec.eq_of_toNat_eq h
    split_ifs with h7
    · exact HasWord.upTo (by rw [hasWord_some, encodeWord, ← h7, packWord_of_selector h3 ho])
    · exact hasWord_none.upTo
  case h_6 h =>
    have h3 : rvFunct3 w = 5 := BitVec.eq_of_toNat_eq h
    exact (decodeInt256_hasWord.of_eq (packWord_of_selector h3 ho)).upTo
  case h_7 => exact hasWord_none.upTo

theorem decodeCustom1_hasWord (ho : rvOpcode w = 0x2B) : HasWord (decodeCustom1 w) w := by
  unfold decodeCustom1
  split
  case h_1 h =>
    have h3 : rvFunct3 w = 0 := BitVec.eq_of_toNat_eq h
    exact decodeModular_hasWord.of_eq (by rw [split_7_idx, packWord_of_selector h3 ho])
  case h_2 h =>
    have h3 : rvFunct3 w = 1 := BitVec.eq_of_toNat_eq h
    exact decodeCurve_hasWord.of_eq (by rw [split_7_idx, packWord_of_selector h3 ho])
  case h_3 => exact hasWord_none

/-- A word that decodes is the word of its instruction, up to the ignored fields. -/
theorem decodeWord_hasWordUpTo : HasWordUpTo (decodeWord w) w := by
  have hw (opc : BitVec 7) (ho : (rvOpcode w).toNat = opc.toNat) := packWord_of_selector rfl (BitVec.eq_of_toNat_eq ho)
  unfold decodeWord
  split
  case h_1 h => exact (decodeOp_hasWord.of_eq (hw 0x33 h)).upTo
  case h_2 h => exact (decodeOpImm_hasWord.of_eq (hw 0x13 h)).upTo
  case h_3 h => exact (decodeLoad_hasWord.of_eq (by rw [packI_immI, hw 0x03 h])).upTo
  case h_4 h => exact (decodeStore_hasWord.of_eq (by rw [packS_immS, hw 0x23 h])).upTo
  case h_5 h => exact (decodeBranch_hasWord.of_eq (by rw [packB_immB, hw 0x63 h])).upTo
  case h_6 h => exact HasWord.upTo (by rw [hasWord_some, encodeWord, packJ_immJ, hw 0x6F h])
  case h_7 h =>
    split_ifs with h3
    · exact HasWord.upTo (by rw [hasWord_some, encodeWord, packI_immI, ← h3, hw 0x67 h])
    · exact hasWord_none.upTo
  case h_8 h => exact HasWord.upTo (by rw [hasWord_some, encodeWord, packU_immU, hw 0x37 h])
  case h_9 h => exact HasWord.upTo (by rw [hasWord_some, encodeWord, packU_immU, hw 0x17 h])
  case h_10 h => exact decodeCustom0_hasWordUpTo (BitVec.eq_of_toNat_eq h)
  case h_11 h => exact (decodeCustom1_hasWord (BitVec.eq_of_toNat_eq h)).upTo
  case h_12 => exact hasWord_none.upTo

end words

/-- Settles O3: each decoder reads the fields that the encoder writes. -/
theorem encodeOfDecodeIsTheWord : Obligations.EncodeOfDecodeIsTheWord := fun _ _ h => decodeWord_hasWordUpTo _ h

end Sys2Proof
end

section
/-!
PROOF. The words that stand for no instruction, and the programs that hold one.
-/

namespace Sys2Proof

open Machine

/-! ### Where each decoder answers nothing -/

section decoders

variable {f7 f3 k : Nat} {rd rs1 rs2 : BitVec 5} {imm : BitVec 12} {idx : BitVec 4} {w : Word}

@[simp] theorem decodeOp_eq_none (h3 : f3 < 8) :
    decodeOp f7 f3 rd rs1 rs2 = none ↔ f7 ≠ 0 ∧ f7 ≠ 1 ∧ ¬ (f7 = 0x20 ∧ (f3 = 0 ∨ f3 = 5)) := by
  unfold decodeOp
  split <;> grind

@[simp] theorem decodeOpImm_eq_none (h3 : f3 < 8) :
    decodeOpImm f7 f3 rd rs1 rs2 imm = none ↔ f3 = 1 ∧ f7 ≠ 0 ∨ f3 = 5 ∧ f7 ≠ 0 ∧ f7 ≠ 0x20 := by
  unfold decodeOpImm
  split <;> grind

@[simp] theorem decodeLoad_eq_none (h3 : f3 < 8) : decodeLoad f3 rd rs1 imm = none ↔ f3 = 3 ∨ f3 = 6 ∨ f3 = 7 := by
  unfold decodeLoad
  split <;> grind

@[simp] theorem decodeStore_eq_none : decodeStore f3 rs1 rs2 imm = none ↔ 2 < f3 := by
  unfold decodeStore
  split <;> grind

@[simp] theorem decodeBranch_eq_none (h3 : f3 < 8) : decodeBranch f3 rs1 rs2 imm = none ↔ f3 = 2 ∨ f3 = 3 := by
  unfold decodeBranch
  split <;> grind

@[simp] theorem decodeInt256_eq_none : decodeInt256 f7 rd rs1 rs2 = none ↔ 0x10 < f7 := by
  unfold decodeInt256
  split <;> grind

@[simp] theorem decodeModular_eq_none : decodeModular k idx rd rs1 rs2 = none ↔ 4 < k := by
  unfold decodeModular
  split <;> grind

@[simp] theorem decodeCurve_eq_none : decodeCurve k idx rd rs1 rs2 = none ↔ 1 < k ∨ k = 1 ∧ rs2 ≠ 0 := by
  unfold decodeCurve
  split <;> grind

/-- The clause of custom-0 (R149). -/
@[simp] theorem decodeCustom0_eq_none : decodeCustom0 w = none ↔
    (rvFunct3 w).toNat = 3 ∧ ¬ ((rvFunct7 w).toNat = 0 ∧ (rvRs2 w).toNat = 0) ∨
    (rvFunct3 w).toNat = 4 ∧ (rvFunct7 w).toNat ≠ 0 ∨ (rvFunct3 w).toNat = 5 ∧ 0x10 < (rvFunct7 w).toNat ∨
      5 < (rvFunct3 w).toNat := by
  have himm : immI w = 0 ↔ (rvFunct7 w).toNat = 0 ∧ (rvRs2 w).toNat = 0 := by
    rw [← BitVec.toNat_inj, immI, append_toNat]
    simp
  have h7 : rvFunct7 w = 0 ↔ (rvFunct7 w).toNat = 0 := BitVec.toNat_inj.symm
  unfold decodeCustom0
  split <;> grind [decodeInt256_eq_none]

/-- The clause of custom-1 (R149). -/
@[simp] theorem decodeCustom1_eq_none : decodeCustom1 w = none ↔
    (rvFunct3 w).toNat = 0 ∧ 4 < (rvFunct7 w).toNat % 8 ∨
    (rvFunct3 w).toNat = 1 ∧ (1 < (rvFunct7 w).toNat % 8 ∨ (rvFunct7 w).toNat % 8 = 1 ∧ (rvRs2 w).toNat ≠ 0) ∨
      1 < (rvFunct3 w).toNat := by
  have hk : ((rvFunct7 w).extractLsb' 0 3).toNat = (rvFunct7 w).toNat % 8 := by simp [BitVec.extractLsb'_toNat]
  have h2 : rvRs2 w = 0 ↔ (rvRs2 w).toNat = 0 := BitVec.toNat_inj.symm
  unfold decodeCustom1
  split <;> grind [decodeModular_eq_none, decodeCurve_eq_none]

/-- The fields of an unassigned word are those the decoder reads (R141). -/
theorem unassignedWord_iff : UnassignedWord w ↔
    UnassignedFields (rvOpcode w).toNat (rvFunct3 w).toNat (rvFunct7 w).toNat (rvRs2 w).toNat := by
  have h7 : w.toNat / 2 ^ 25 % 2 ^ 7 = w.toNat / 2 ^ 25 := Nat.mod_eq_of_lt (by have := w.isLt; omega)
  simp only [rvOpcode, rvFunct3, rvFunct7, rvRs2, BitVec.extractLsb'_toNat, Nat.shiftRight_eq_div_pow, h7, pow_zero, Nat.div_one]

/-- A word stands for no instruction exactly when it matches no row (R149, R154). -/
theorem decodeWord_eq_none : decodeWord w = none ↔ UnassignedWord w := by
  have h3 := (rvFunct3 w).isLt
  have h0 : rvFunct3 w = 0#3 ↔ (rvFunct3 w).toNat = 0 := BitVec.toNat_inj.symm
  rw [unassignedWord_iff]
  unfold decodeWord
  split
  case h_12 => exact iff_of_true rfl (.inl (by simp_all))
  all_goals simp [UnassignedFields, *]

/-- A program that holds a word the transpiler refuses takes no step, wherever the word stands (R476). -/
theorem step_of_refused_word {s : State} {k : Nat} {why : Refusal} (hs : s.status = .running) (hk : (k, .riscv w) ∈ s.prog)
    (h : entryRejection s.cfg (.riscv w) = some why) : ∃ why', step s = .refused why' := by
  obtain ⟨why', hr⟩ := rejection_of_mem hk h
  exact ⟨why', step_of_rejected hs hr⟩

end decoders

/-- Settles O4. -/
theorem reservedWordsAreRefused : Obligations.ReservedWordsAreRefused := by
  refine fun w => ⟨decodeWord_eq_none, fun hw s k hs hk => ?_⟩
  have hnone : decodeWord w = none := decodeWord_eq_none.2 hw
  exact step_of_refused_word hs hk (why := .noTranspilation) (by simp only [entryRejection, hnone])

end Sys2Proof
end

section
/-!
PROOF. The 256-bit branches and the words that stand for them.
-/

namespace Sys2Proof.Machine

section branch256

variable {s : State} {a b c q : Nat} {off : Int} {x y : Wide} {op : Op} {cond : Wide → Wide → Bool}

/-- A small offset is the centred value of its field element (R365, R472). -/
theorem centred_fe {p : Nat} {bound : Nat} (hp : 2 * bound < p) (h0 : -bound ≤ off) (h1 : off < bound) :
    centred p (fe p off) = off := by
  unfold fe centred
  rcases Int.lt_or_le off 0 with h | h
  · have hmod : off % p = off + p := by
      rw [← Int.add_emod_right, Int.emod_eq_of_lt (by omega) (by omega)]
    rw [hmod, if_neg (by omega)]
    omega
  · rw [Int.emod_eq_of_lt h (by omega), if_pos (by omega)]
    omega

/-- A transfer whose integer target is a location goes there (R281, R365). -/
theorem jumpBy_of_int (hw : s.cfg.Wf) (hq : q < 2 ^ 30) (h : (q : Int) = s.pc + centred s.cfg.p c) :
    s.jumpBy c = .ok { s with pc := q } := by
  have hp := Config.Wf.prime_gt hw
  rw [← fadd_eq_of_int (by omega : q < s.cfg.p) h]
  exact jumpBy_ok.2 ⟨by omega, rfl⟩

/-- A 256-bit branch whose operands are legal and whose blocks hold values jumps or steps. -/
theorem execBranch256_of_holds {qa qb : Nat} (hop : opEnabled s.cfg op = true) (hw : s.cfg.Wf)
    (hc : BranchOffset s.cfg.p c) (ha : s.PointsTo a qa 32 32) (hb : s.PointsTo b qb 32 32)
    (hx : s.HoldsBytes 2 qa 32 x.toNat) (hy : s.HoldsBytes 2 qb 32 y.toNat) :
    execBranch256 op cond ⟨a, b, c, 1, 2, 0, 0⟩ s = outcome (if cond x y then s.jumpBy c else s.advance) := by
  have hop' : s.requireOp op = .ok () := requireOp_ok.2 hop
  simp only [execBranch256, hop', require_of hc, load256_of_holds hw ha hx, load256_of_holds hw hb hy, require_of, ok_bind,
    and_self]

/-- The six 256-bit branches, with their words, mnemonics and conditions (R366 to R371, R544 to R549). -/
def branch256Rows : List ((Operands → Instr) × (BitVec 5 → BitVec 5 → BitVec 5 → Instr) × Op × (Wide → Wide → Bool)) := [
  (.beq256Rv32, .rvBeq256, .beq256Rv32, fun x y => decide (x = y)),
  (.bne256Rv32, .rvBne256, .bne256Rv32, fun x y => decide (x ≠ y)),
  (.blt256Rv32, .rvBlt256, .blt256Rv32, fun x y => decide (x.toInt < y.toInt)),
  (.bge256Rv32, .rvBge256, .bge256Rv32, fun x y => decide (y.toInt ≤ x.toInt)),
  (.bltu256Rv32, .rvBltu256, .bltu256Rv32, fun x y => decide (x.toNat < y.toNat)),
  (.bgeu256Rv32, .rvBgeu256, .bgeu256Rv32, fun x y => decide (y.toNat ≤ x.toNat))]

section rows

variable {row : (Operands → Instr) × (BitVec 5 → BitVec 5 → BitVec 5 → Instr) × Op × (Wide → Wide → Bool)}

/-- Each branch is the skeleton of the 256-bit branches on its condition. -/
theorem exec_branch256Row (h : row ∈ branch256Rows) (o : Operands) :
    exec (row.1 o) s = execBranch256 row.2.2.1 row.2.2.2 o s := by
  simp only [branch256Rows, List.mem_cons, List.not_mem_nil, or_false] at h
  rcases h with rfl | rfl | rfl | rfl | rfl | rfl
  case inr.inl => exact congrArg (execBranch256 .bne256Rv32 · o s) condNe_eq
  all_goals rfl

/-- The word of a branch runs the branch where the configuration supplies its immediate (R147; log 18). -/
theorem exec_branch256Row_word {w : Word} {rd rs1 rs2 : BitVec 5} (h : row ∈ branch256Rows)
    (hw : encodeWord (row.2.1 rd rs1 rs2) = some w) : exec (row.2.1 rd rs1 rs2) s =
      runBranch256 w (fun off => exec (row.1 (branchForm rs1 rs2 (fe s.cfg.p off) 2))) s := by
  simp only [branch256Rows, List.mem_cons, List.not_mem_nil, or_false] at h
  rcases h with rfl | rfl | rfl | rfl | rfl | rfl <;> cases hw <;> rfl

end rows

theorem runBranch256_of_supplied {w : Word} {run : Int → State → Host.Outcome State Fault Refusal}
    (h : immBranch256 s.cfg w = some off) : runBranch256 w run s = run off s := by
  simp only [runBranch256, h]

theorem runBranch256_of_not_supplied {w : Word} {run : Int → State → Host.Outcome State Fault Refusal}
    (h : ∀ off, (w, off) ∉ s.cfg.immBranch256) : runBranch256 w run s = .refused .immBranch256NotSupplied := by
  have hnone : immBranch256 s.cfg w = none := by
    simp only [immBranch256, Option.map_eq_none_iff, List.find?_eq_none, beq_iff_eq]
    rintro ⟨_, off⟩ hx rfl
    exact h off hx
  simp only [runBranch256, hnone]

end branch256

end Sys2Proof.Machine

namespace Sys2Proof

open Machine

/-- Settles O39: a branch and its word are the skeleton of the branches with an offset that stands for `off`. -/
theorem branch256SetsPc : Obligations.Branch256SetsPc := by
  intro row hrow s i a b c off x y qa qb q hw hop hi h0 h1 ha hb hx hy hq htarget
  have hp := Config.Wf.prime_gt hw
  have hexec : ∃ c', centred s.cfg.p c' = off ∧ exec i s = execBranch256 row.2.2.1 row.2.2.2 ⟨a, b, c', 1, 2, 0, 0⟩ s := by
    rcases hi with ⟨rfl, rfl⟩ | ⟨rd, rs1, rs2, w, rfl, hword, himm, rfl, rfl⟩
    · exact ⟨c, rfl, exec_branch256Row hrow _⟩
    · refine ⟨fe s.cfg.p off, centred_fe (bound := 2 ^ 24) (by omega) (by simpa using h0) (by simpa using h1), ?_⟩
      rw [exec_branch256Row_word hrow hword, runBranch256_of_supplied himm, exec_branch256Row hrow]
      rfl
  obtain ⟨c', rfl, hexec⟩ := hexec
  rw [hexec, execBranch256_of_holds hop hw ⟨h0, h1⟩ ha hb hx hy, outcome_next]
  split_ifs at htarget ⊢
  · exact jumpBy_of_int hw hq htarget
  · obtain rfl : q = s.pc + 4 := by omega
    exact advance_of_lt hw hq

end Sys2Proof
end

section
/-!
PROOF. Enabled instructions and refused words: an axVM instruction first checks that it is enabled and is never refused, and a word
runs as what the transpiler answers for it.
-/

namespace Sys2Proof.Machine

/-! ### Disabled instructions -/

section disabled

variable {s : State} {i : Instr} {op : Op} {o : Operands}

theorem requireOp_of_disabled (h : opEnabled s.cfg op = false) : s.requireOp op = .error .unknownOpcode :=
  require_not (Bool.eq_false_iff.1 h)

theorem outcome_of_disabled {f : Unit → Except Fault State} (h : opEnabled s.cfg op = false) :
    outcome (s.requireOp op >>= f) = .fault .unknownOpcode := by
  rw [requireOp_of_disabled h, error_bind, outcome]

/-- The loads and stores check the opcode with their operands (R263). -/
theorem outcome_loadStore_of_disabled {f : Unit → Except Fault State} (h : opEnabled s.cfg op = false) :
    outcome (s.loadStoreChecks op o >>= f) = .fault .unknownOpcode := by
  rw [State.loadStoreChecks, requireOp_of_disabled h, error_bind, error_bind, outcome]

/-- The check of the opcode precedes every other check (R601). -/
theorem exec_of_disabled (hop : i.op = some op) (h : opEnabled s.cfg op = false) : exec i s = .fault .unknownOpcode := by
  cases i with
  | loadbRv32 | loadhRv32 | loadwRv32 | loadbuRv32 | loadhuRv32 | storebRv32 | storehRv32 | storewRv32 =>
    cases hop; exact outcome_loadStore_of_disabled h
  | _ => cases hop <;> exact outcome_of_disabled h

end disabled

/-! ### The answers of the transpiler -/

section answers

variable {P : Instr → Prop} {cfg : Config} {i j : Instr} {r : Except Refusal Instr} {rd : BitVec 5} {idx : BitVec 4} {w : Word}

/-- What the transpiler answers, where it does not refuse, has a property. -/
def Answers (P : Instr → Prop) (r : Except Refusal Instr) : Prop := ∀ j, r = .ok j → P j

theorem answers_ok (h : P j) : Answers P (.ok j) := by
  rintro _ ⟨⟩
  exact h

theorem answers_error {why : Refusal} : Answers P (.error why) := fun _ h => nomatch h

theorem answers_unlessX0 (hnop : P (.phantomNop noPhantom)) (h : P j) : Answers P (unlessX0 rd j) := by
  unfold unlessX0
  split_ifs
  · exact answers_ok hnop
  · exact answers_ok h

theorem answers_withBranch256 {t : Int → Instr} (h : ∀ off, P (t off)) : Answers P (withBranch256 cfg w t) := by
  unfold withBranch256
  split
  · exact answers_ok (h _)
  · exact answers_error

theorem answers_withModulus (h : idx.toNat < cfg.moduli.length → P j) : Answers P (withModulus cfg idx j) := by
  unfold withModulus
  split_ifs with hidx
  · exact answers_ok (h hidx)
  · exact answers_error

theorem answers_withCurve (h : idx.toNat < cfg.curves.length → P j) : Answers P (withCurve cfg idx j) := by
  unfold withCurve
  split_ifs with hidx
  · exact answers_ok (h hidx)
  · exact answers_error

theorem answers_unless_iseqmodIntoX0 (h : Answers P r) :
    Answers P (if rd = 0 then .error .iseqmodIntoX0 else r) := by
  split_ifs
  · exact answers_error
  · exact h

/-- What the transpiler answers is an axVM instruction (R470). -/
theorem transpile_answers_op (cfg : Config) (i : Instr) : Answers (fun j => ∃ op, j.op = some op) (transpile cfg i) := by
  cases i with
  | rvAdd | rvSub | rvXor | rvOr | rvAnd | rvSll | rvSrl | rvSra | rvSlt | rvSltu | rvAddi | rvXori | rvOri | rvAndi | rvSlli
  | rvSrli | rvSrai | rvSlti | rvSltiu | rvLb | rvLh | rvLw | rvLbu | rvLhu | rvLui | rvAuipc | rvMul | rvMulh | rvMulhsu
  | rvMulhu | rvDiv | rvDivu | rvRem | rvRemu => exact answers_unlessX0 ⟨_, rfl⟩ ⟨_, rfl⟩
  | rvBeq256 | rvBne256 | rvBlt256 | rvBge256 | rvBltu256 | rvBgeu256 => exact answers_withBranch256 fun _ => ⟨_, rfl⟩
  | rvAddmod | rvSubmod | rvMulmod | rvDivmod => exact answers_withModulus fun _ => ⟨_, rfl⟩
  | rvIseqmod => exact answers_unless_iseqmodIntoX0 (answers_withModulus fun _ => ⟨_, rfl⟩)
  | rvSwAddNe | rvSwDouble => exact answers_withCurve fun _ => ⟨_, rfl⟩
  | _ => exact answers_ok ⟨_, rfl⟩

end answers

/-! ### Refused instructions -/

section refusals

variable {s : State} {i : Instr} {op : Op} {why : Refusal} {e : RomEntry} {idx : BitVec 4}

/-- An axVM instruction completes or faults. -/
theorem exec_ne_refused (hop : i.op = some op) : exec i s ≠ .refused why := by
  cases i <;> first | exact outcome_not_refused | cases hop

/-- Every instruction runs as what the transpiler answers for it (R470). -/
theorem exec_eq_runTranspiled (i : Instr) (s : State) : exec i s = runTranspiled (transpile s.cfg i) s := by
  cases i with
  | rvAdd | rvSub | rvXor | rvOr | rvAnd | rvSll | rvSrl | rvSra | rvSlt | rvSltu | rvAddi | rvXori | rvOri | rvAndi | rvSlli
  | rvSrli | rvSrai | rvSlti | rvSltiu | rvLb | rvLh | rvLw | rvLbu | rvLhu | rvLui | rvAuipc | rvMul | rvMulh | rvMulhsu
  | rvMulhu | rvDiv | rvDivu | rvRem | rvRemu => exact runUnlessX0_eq rfl
  | rvBeq256 | rvBne256 | rvBlt256 | rvBge256 | rvBltu256 | rvBgeu256 => exact runBranch256_eq fun _ => rfl
  | rvAddmod => exact runModulus_eq (run := fun n => execAddmodRv32 n _) rfl
  | rvSubmod => exact runModulus_eq (run := fun n => execSubmodRv32 n _) rfl
  | rvMulmod => exact runModulus_eq (run := fun n => execMulmodRv32 n _) rfl
  | rvDivmod => exact runModulus_eq (run := fun n => execDivmodRv32 n _) rfl
  | rvIseqmod idx rd =>
    by_cases hrd : rd = 0
    · simp only [exec, execRvIseqmod, transpile, if_pos hrd, runTranspiled]
    · simp only [exec, execRvIseqmod, transpile, if_neg hrd]
      exact runModulus_eq (run := fun n => execIseqmodRv32 n _) rfl
  | rvSwAddNe => exact runCurve_eq (run := fun n => execSwAddNe n _) rfl
  | rvSwDouble => exact runCurve_eq (run := fun n => execSwDouble n _) rfl
  | _ => rfl

/-- An instruction is refused exactly where the transpiler refuses it, for the same reason (R476). -/
theorem exec_refused_iff : exec i s = .refused why ↔ transpile s.cfg i = .error why := by
  rw [exec_eq_runTranspiled]
  cases ht : transpile s.cfg i with
  | ok j =>
    obtain ⟨op, hop⟩ := transpile_answers_op _ _ j ht
    exact iff_of_false (exec_ne_refused hop) nofun
  | error why' => simp only [runTranspiled, Host.Outcome.refused.injEq, Except.error.injEq]

theorem mem_of_get? {α : Type} {m : NatMap α} {k : Nat} {x : α} (h : m.get? k = some x) : (k, x) ∈ m := by
  induction m with
  | nil => cases h
  | cons y m ih =>
    rw [NatMap.get?] at h
    split_ifs at h with hk
    · cases h; exact hk ▸ List.mem_cons_self
    · exact List.mem_cons_of_mem _ (ih h)

theorem entryRejection_of_refused {w : Word} (hd : decodeWord w = some i) (ht : transpile s.cfg i = .error why) :
    entryRejection s.cfg (.riscv w) = some why := by
  simp only [entryRejection, hd, ht]

/-- The instruction of a tuple is one of the axVM's own, with the mnemonic of the opcode (R122). -/
theorem ofOp_op (op : Op) (o : Operands) : (Instr.ofOp op o).op = some op := by
  cases op with
  | phantom =>
    show (decodePhantom o).op = some .phantom
    unfold decodePhantom
    split <;> rfl
  | storewRv32 =>
    rw [Instr.ofOp]
    split_ifs <;> rfl
  | _ => rfl

theorem exec_ne_refused_of_accepted (h : entryRejection s.cfg e = none) (hd : decode s.cfg e = some i) :
    exec i s ≠ .refused why := by
  cases e with
  | tuple u =>
    simp only [decode, decodeTuple] at hd
    split at hd
    · cases hd
      exact exec_ne_refused (ofOp_op _ _)
    · cases hd
  | riscv w =>
    intro hexec
    rw [entryRejection_of_refused hd (exec_refused_iff.1 hexec)] at h
    cases h

theorem decodeEntry_ne_refused {cfg : Config} (h : entryRejection cfg e = none) : decodeEntry cfg e ≠ .refused why := by
  cases hd : decode cfg e with
  | some i => simp only [decodeEntry, hd, ne_eq, reduceCtorEq, not_false_eq_true]
  | none =>
    cases e with
    | tuple u => simp only [decodeEntry, hd, ne_eq, reduceCtorEq, not_false_eq_true]
    | riscv w =>
      have hw : decodeWord w = none := hd
      simp only [entryRejection, hw, reduceCtorEq] at h

/-- A running program without refused words completes its step or faults (R476). -/
theorem step_ne_refused (hs : s.status = .running) (hr : s.rejection = none) : step s ≠ .refused why := by
  have haccepted {e} (he : s.prog.get? s.pc = some e) : entryRejection s.cfg e = none :=
    rejection_eq_none.1 hr _ (mem_of_get? he)
  unfold step
  split
  case h_1 hf =>
    obtain ⟨-, -, -, e, he, hd⟩ := fetch_next.1 hf
    exact exec_ne_refused_of_accepted (haccepted he) hd
  case h_2 => exact nofun
  case h_3 hf =>
    simp only [State.fetch, if_pos hs, hr] at hf
    split_ifs at hf
    split at hf
    · exact absurd hf (decodeEntry_ne_refused (haccepted ‹_›))
    · cases hf

/-! ### The refusals of single words -/

theorem withModulus_of_not_configured (h : s.cfg.moduli.length ≤ idx.toNat) :
    withModulus s.cfg idx i = .error .modulusNotConfigured := if_neg (Nat.not_lt.2 h)

theorem withCurve_of_not_configured (h : s.cfg.curves.length ≤ idx.toNat) :
    withCurve s.cfg idx i = .error .curveNotConfigured := if_neg (Nat.not_lt.2 h)

end refusals

end Sys2Proof.Machine

namespace Sys2Proof

open Machine

/-- Settles O17: every instruction checks its opcode first. -/
theorem disabledInstructionsFault : Obligations.DisabledInstructionsFault := fun _ _ _ => exec_of_disabled

/-- Settles O20. -/
theorem untranspilableWordsAreRefused : Obligations.UntranspilableWordsAreRefused := by
  refine fun s idx rd rs1 rs2 => ⟨exec_refused_iff.2 rfl, fun h => ⟨?_, fun hrd => ?_⟩, fun h => ⟨?_, ?_⟩, ?_, ?_, ?_⟩
  · simp only [List.mem_cons, List.not_mem_nil, or_false]
    rintro f (rfl | rfl | rfl | rfl) <;> exact exec_refused_iff.2 (withModulus_of_not_configured h)
  · exact exec_refused_iff.2 ((if_neg hrd).trans (withModulus_of_not_configured h))
  · exact exec_refused_iff.2 (withCurve_of_not_configured h)
  · exact exec_refused_iff.2 (withCurve_of_not_configured h)
  · intro f hf w hw hnone
    obtain ⟨row, hrow, rfl⟩ := List.mem_map.1 (show f ∈ branch256Rows.map (·.2.1) from hf)
    exact (exec_branch256Row_word hrow hw).trans (runBranch256_of_not_supplied hnone)
  · intro k w i why hs hk hd ht
    exact step_of_refused_word hs hk (entryRejection_of_refused hd ht)
  · exact fun hs hr _ => step_ne_refused hs hr

end Sys2Proof
end

section
/-!
PROOF. The operand lists and immediate forms of R124 and R126 are what the instructions check: an enabled instruction whose list is not
legal fails one of its first checks, before any access.
-/

namespace Sys2Proof.Machine

/-! ### The lists in the machine's terms -/

section lists

variable {cfg : Config} {o : Operands} {c e k p : Nat}

theorem spaceSupported_iff : cfg.spaceSupported k = true ↔ ValidSpace cfg k := by
  simp [Config.spaceSupported, and_assoc]

theorem immediate24_iff : immediate24 c = true ↔ AluImmediate c := by simp [immediate24, AluImmediate]

/-- For a field element the range of the list is that of its centred value (R126, R281). -/
theorem offset25_iff (hc : c < p) : offset25 p c = true ↔ BranchOffset p c := by
  simp only [offset25, Bool.or_eq_true, decide_eq_true_eq, BranchOffset, centred]
  split_ifs <;> omega

theorem nativeOffset_iff (hc : c < cfg.p) : cfg.nativeOffset c = true ↔ NativeOffset cfg c := by
  unfold Config.nativeOffset NativeOffset
  split
  · exact iff_of_true rfl (by simp [*])
  · rw [offset25_iff hc]
    simp [*]

theorem areFelts_iff :
    o.areFelts p = true ↔ o.a < p ∧ o.b < p ∧ o.c < p ∧ o.d < p ∧ o.e < p ∧ o.f < p ∧ o.g < p := by
  simp [Operands.areFelts, and_assoc]

theorem b_lt_of_areFelts (h : o.areFelts p = true) : o.b < p := by
  obtain ⟨-, hb, -⟩ := areFelts_iff.1 h
  exact hb

theorem c_lt_of_areFelts (h : o.areFelts p = true) : o.c < p := by
  obtain ⟨-, -, hc, -⟩ := areFelts_iff.1 h
  exact hc

theorem rv32List_iff : o.rv32List e = true ↔ o.d = 1 ∧ o.e = e ∧ o.f = 0 ∧ o.g = 0 := by simp [Operands.rv32List, and_assoc]

theorem aluList_iff : o.aluList = true ↔
    (o.d = 1 ∧ (o.e = 0 ∨ o.e = 1) ∧ o.f = 0 ∧ o.g = 0) ∧ (o.e = 0 → AluImmediate o.c) := by
  simp only [Operands.aluList, Bool.and_eq_true, Bool.or_eq_true, beq_iff_eq, immediate24_iff]
  constructor
  · rintro ⟨⟨⟨hd, he | ⟨he, hc⟩⟩, hf⟩, hg⟩
    · exact ⟨⟨hd, .inr he, hf, hg⟩, fun h0 => by omega⟩
    · exact ⟨⟨hd, .inl he, hf, hg⟩, fun _ => hc⟩
  · rintro ⟨⟨hd, he | he, hf, hg⟩, hc⟩
    · exact ⟨⟨⟨hd, .inr ⟨he, hc he⟩⟩, hf⟩, hg⟩
    · exact ⟨⟨⟨hd, .inl he⟩, hf⟩, hg⟩

theorem loadStoreList_iff : o.loadStoreList cfg = true ↔
    (o.d = 1 ∧ o.f = 0 ∧ o.g = 0) ∧ ValidSpace cfg o.e ∧ o.c < 2 ^ 16 := by
  simp only [Operands.loadStoreList, Bool.and_eq_true, beq_iff_eq, decide_eq_true_eq, spaceSupported_iff]
  tauto

theorem nativeList_iff : o.nativeList cfg = true ↔ (ValidSpace cfg o.d ∧ ValidSpace cfg o.e) ∧ o.f = 0 ∧ o.g = 0 := by
  simp only [Operands.nativeList, Bool.and_eq_true, beq_iff_eq, spaceSupported_iff, and_assoc]

theorem fieldList_iff : o.fieldList cfg = true ↔
    ValidSpace cfg o.d ∧ (o.e = 0 ∨ ValidSpace cfg o.e) ∧ o.f = 0 ∧ o.g = 0 := by
  simp only [Operands.fieldList, Bool.and_eq_true, Bool.or_eq_true, beq_iff_eq, spaceSupported_iff, and_assoc]

theorem tailZero_iff {q : PhantomOperands} : q.tailZero = true ↔ q.d = 0 ∧ q.e = 0 ∧ q.f = 0 ∧ q.g = 0 := by
  simp [PhantomOperands.tailZero, and_assoc]

theorem allZero_iff {q : PhantomOperands} : q.allZero = true ↔ (q.a = 0 ∧ q.b = 0 ∧ q.cUpper = 0) ∧ q.tailZero = true := by
  simp [PhantomOperands.allZero, and_assoc]

end lists

/-! ### Failing a check of the operands -/

section faults

variable {α β : Type} {c : Prop} [Decidable c] {op : Op} {o : Operands} {q : PhantomOperands} {s : State}

/-- A check of the operands failed (R125). -/
def OperandFault (r : Except Fault α) : Prop := r = .error .badOperand ∨ r = .error .badAddressSpace

/-- The instruction stops with one of the faults of the operands (R125). -/
def IllegalOperands (r : Host.Outcome State Fault Refusal) : Prop := r = .fault .badOperand ∨ r = .fault .badAddressSpace

theorem OperandFault.bind {r : Except Fault α} {f : α → Except Fault β} (h : OperandFault r) : OperandFault (r >>= f) := by
  rcases h with rfl | rfl
  · exact .inl rfl
  · exact .inr rfl

theorem OperandFault.operand {f : Unit → Except Fault α} (h : c → OperandFault (f ())) :
    OperandFault (require c .badOperand >>= f) := by
  by_cases hc : c
  · rw [require_of hc]; exact h hc
  · rw [require_not hc]; exact .inl rfl

theorem OperandFault.space {f : Unit → Except Fault α} (h : c → OperandFault (f ())) :
    OperandFault (require c .badAddressSpace >>= f) := by
  by_cases hc : c
  · rw [require_of hc]; exact h hc
  · rw [require_not hc]; exact .inr rfl

theorem illegalOperands_of_enabled {f : Unit → Except Fault State} (hop : opEnabled s.cfg op = true)
    (h : OperandFault (f ())) : IllegalOperands (outcome (s.requireOp op >>= f)) := by
  have hop' : s.requireOp op = .ok () := requireOp_ok.2 hop
  rw [hop', ok_bind]
  exact h.imp outcome_fault.2 outcome_fault.2

/-! ### The system instructions -/

theorem execTerminate_illegal (hop : opEnabled s.cfg .terminate = true)
    (h : ¬ (Instr.terminate o).operandsLegal s.cfg = true) : IllegalOperands (execTerminate o s) :=
  illegalOperands_of_enabled hop <| .operand fun h1 => absurd (by simp [Instr.operandsLegal, h1]) h

theorem runPhantom_illegal {effect : State → Nat → Nat → Nat → Except Fault State} (hop : opEnabled s.cfg .phantom = true)
    (h : q.tailZero = true → OperandFault (effect s q.a q.b q.cUpper)) : IllegalOperands (runPhantom effect q s) :=
  illegalOperands_of_enabled hop <| .operand fun h1 => (h (tailZero_iff.2 h1)).bind

theorem noPhantomOperands_illegal {f : Unit → Except Fault State} (h : ¬ q.allZero = true) (hq : q.tailZero = true) :
    OperandFault (noPhantomOperands q.a q.b q.cUpper >>= f) :=
  .operand fun h1 => absurd (allZero_iff.2 ⟨h1, hq⟩) h

theorem cellRead_illegal {sp ptr : Nat} (h : ¬ ValidSpace s.cfg sp) : OperandFault (s.cellRead sp ptr) :=
  OperandFault.bind (OperandFault.space fun h1 => absurd h1 h)

/-! ### The RV32 instructions -/

theorem execAlu_illegal {f : Word → Word → Word} (hop : opEnabled s.cfg op = true) (h : ¬ o.aluList = true) :
    IllegalOperands (execAlu op f o s) :=
  illegalOperands_of_enabled hop <| .operand fun h1 => .operand fun h2 => absurd (aluList_iff.2 ⟨h1, h2⟩) h

/-- The loads and stores check their operands before the two register pointers (R263). -/
theorem loadStoreChecks_illegal {f : Unit → Except Fault State} (hop : opEnabled s.cfg op = true)
    (h : ¬ o.loadStoreList s.cfg = true) : IllegalOperands (outcome (s.loadStoreChecks op o >>= f)) := by
  have hop' : s.requireOp op = .ok () := requireOp_ok.2 hop
  have hchecks : OperandFault (s.loadStoreChecks op o) := by
    rw [State.loadStoreChecks, hop', ok_bind]
    exact .operand fun h1 => .space fun h2 => .operand fun h3 => absurd (loadStoreList_iff.2 ⟨h1, h2, h3⟩) h
  exact hchecks.bind.imp outcome_fault.2 outcome_fault.2

theorem execLoad_illegal {n : Nat} {conv : List Nat → Word} (hop : opEnabled s.cfg op = true)
    (h : ¬ o.loadStoreList s.cfg = true) : IllegalOperands (execLoad op n conv o s) := loadStoreChecks_illegal hop h

theorem execStore_illegal {n : Nat} (hop : opEnabled s.cfg op = true) (h : ¬ o.loadStoreList s.cfg = true) :
    IllegalOperands (execStore op n o s) := loadStoreChecks_illegal hop h

theorem execReveal_illegal (hop : opEnabled s.cfg .storewRv32 = true)
    (h : ¬ (Instr.revealRv32 o).operandsLegal s.cfg = true) : IllegalOperands (execRevealRv32 o s) :=
  illegalOperands_of_enabled hop <| .operand fun h1 => .operand fun h2 =>
    absurd (by simpa [Instr.operandsLegal, rv32List_iff] using And.intro h1 h2) h

theorem execBranch_illegal {cond : Word → Word → Bool} (hop : opEnabled s.cfg op = true) (hc : o.c < s.cfg.p)
    (h : ¬ (o.rv32List 1 && offset25 s.cfg.p o.c) = true) : IllegalOperands (execBranch op cond o s) :=
  illegalOperands_of_enabled hop <| .operand fun h1 => .operand fun h2 =>
    absurd (Bool.and_eq_true_iff.2 ⟨rv32List_iff.2 h1, (offset25_iff hc).2 h2⟩) h

theorem execJalRv32_illegal (hop : opEnabled s.cfg .jalRv32 = true) (hc : o.c < s.cfg.p)
    (h : ¬ (Instr.jalRv32 o).operandsLegal s.cfg = true) : IllegalOperands (execJalRv32 o s) :=
  illegalOperands_of_enabled hop <| .operand fun h1 => .operand fun h2 =>
    absurd (by simp [Instr.operandsLegal, h1, (offset25_iff hc).2 h2]) h

theorem execJalrRv32_illegal (hop : opEnabled s.cfg .jalrRv32 = true)
    (h : ¬ (Instr.jalrRv32 o).operandsLegal s.cfg = true) : IllegalOperands (execJalrRv32 o s) :=
  illegalOperands_of_enabled hop <| .operand fun h1 => .operand fun h2 =>
    absurd (by simp [Instr.operandsLegal, h1, h2, -Nat.reducePow]) h

theorem execLui_illegal (hop : opEnabled s.cfg .luiRv32 = true)
    (h : ¬ (Instr.luiRv32 o).operandsLegal s.cfg = true) : IllegalOperands (execLuiRv32 o s) :=
  illegalOperands_of_enabled hop <| .operand fun h1 => .operand fun h2 =>
    absurd (by simp [Instr.operandsLegal, h1, h2, -Nat.reducePow]) h

theorem execAuipc_illegal (hop : opEnabled s.cfg .auipcRv32 = true)
    (h : ¬ (Instr.auipcRv32 o).operandsLegal s.cfg = true) : IllegalOperands (execAuipcRv32 o s) :=
  illegalOperands_of_enabled hop <| .operand fun h1 => .operand fun h2 =>
    absurd (by simp [Instr.operandsLegal, rv32List_iff, h1, h2, -Nat.reducePow]) h

theorem execMulDiv_illegal {f : Word → Word → Word} (hop : opEnabled s.cfg op = true) (h : ¬ o.rv32List 0 = true) :
    IllegalOperands (execMulDiv op f o s) :=
  illegalOperands_of_enabled hop <| .operand fun h1 => absurd (rv32List_iff.2 h1) h

theorem execHintstorew_illegal (hop : opEnabled s.cfg .hintstorewRv32 = true)
    (h : ¬ (Instr.hintstorewRv32 o).operandsLegal s.cfg = true) : IllegalOperands (execHintstorewRv32 o s) :=
  illegalOperands_of_enabled hop <| .operand fun h1 => .operand fun h2 =>
    absurd (by simp [Instr.operandsLegal, rv32List_iff, h1, h2, -Nat.reducePow]) h

theorem execKeccak_illegal (hop : opEnabled s.cfg .keccak256Rv32 = true)
    (h : ¬ (Instr.keccak256Rv32 o).operandsLegal s.cfg = true) : IllegalOperands (execKeccak256Rv32 o s) :=
  illegalOperands_of_enabled hop <| .operand fun h1 => .space fun h2 =>
    absurd (by simp [Instr.operandsLegal, spaceSupported_iff.2 h2, h1]) h

/-! ### The 256-bit, modular and curve instructions -/

theorem execInt256_illegal {f : Wide → Wide → Wide} (hop : opEnabled s.cfg op = true) (h : ¬ o.rv32List 2 = true) :
    IllegalOperands (execInt256 op f o s) :=
  illegalOperands_of_enabled hop <| .operand fun h1 => absurd (rv32List_iff.2 h1) h

theorem execBranch256_illegal {cond : Wide → Wide → Bool} (hop : opEnabled s.cfg op = true) (hc : o.c < s.cfg.p)
    (h : ¬ (o.rv32List 2 && offset25 s.cfg.p o.c) = true) : IllegalOperands (execBranch256 op cond o s) :=
  illegalOperands_of_enabled hop <| .operand fun h1 => .operand fun h2 =>
    absurd (Bool.and_eq_true_iff.2 ⟨rv32List_iff.2 h1, (offset25_iff hc).2 h2⟩) h

/-- The index of an enabled opcode is configured (R129). -/
theorem configured_of_enabled {cfg : Config} (hop : opEnabled cfg op = true) : opConfigured cfg op = true :=
  (Bool.and_eq_true_iff.1 hop).2

theorem execModular_illegal {f : Nat → Nat → Nat → Except Fault Int} {i : Nat} (hop : opEnabled s.cfg op = true)
    (h : ¬ (o.rv32List 2 && opConfigured s.cfg op) = true) : IllegalOperands (execModular op f i o s) :=
  illegalOperands_of_enabled hop <| .operand fun h1 =>
    absurd (Bool.and_eq_true_iff.2 ⟨rv32List_iff.2 h1, configured_of_enabled hop⟩) h

theorem execIseqmod_illegal {i : Nat} (hop : opEnabled s.cfg (.iseqmodRv32 i) = true)
    (h : ¬ (o.rv32List 2 && opConfigured s.cfg (.iseqmodRv32 i)) = true) : IllegalOperands (execIseqmodRv32 i o s) :=
  illegalOperands_of_enabled hop <| .operand fun h1 =>
    absurd (Bool.and_eq_true_iff.2 ⟨rv32List_iff.2 h1, configured_of_enabled hop⟩) h

theorem execSwAddNe_illegal {i : Nat} (hop : opEnabled s.cfg (.swAddNe i) = true)
    (h : ¬ (o.rv32List 2 && opConfigured s.cfg (.swAddNe i)) = true) : IllegalOperands (execSwAddNe i o s) :=
  illegalOperands_of_enabled hop <| .operand fun h1 =>
    absurd (Bool.and_eq_true_iff.2 ⟨rv32List_iff.2 h1, configured_of_enabled hop⟩) h

theorem execSwDouble_illegal {i : Nat} (hop : opEnabled s.cfg (.swDouble i) = true)
    (h : ¬ (o.c == 0 && o.rv32List 2 && opConfigured s.cfg (.swDouble i)) = true) : IllegalOperands (execSwDouble i o s) :=
  illegalOperands_of_enabled hop <| .operand fun ⟨hc, h1⟩ =>
    absurd (by simp [hc, rv32List_iff.2 h1, configured_of_enabled hop]) h

/-! ### The native kernel -/

/-- Most native instructions check their spaces, then `f` and `g` (R124, R420). -/
theorem nativeList_illegal {f : Unit → Except Fault State} (h : o.nativeList s.cfg = true → OperandFault (f ())) :
    OperandFault (s.nativeSpaces o.d o.e >>= fun _ => noFG o >>= f) :=
  .space fun h1 => .operand fun h2 => h (nativeList_iff.2 ⟨h1, h2⟩)

theorem execLoadNative_illegal {w : Nat} (hop : opEnabled s.cfg (.load w) = true)
    (h : ¬ (o.nativeList s.cfg && opConfigured s.cfg (.load w)) = true) : IllegalOperands (execLoadNative w o s) :=
  illegalOperands_of_enabled hop <| nativeList_illegal fun h1 => absurd (Bool.and_eq_true_iff.2 ⟨h1, configured_of_enabled hop⟩) h

theorem execStoreNative_illegal {w : Nat} (hop : opEnabled s.cfg (.store w) = true)
    (h : ¬ (o.nativeList s.cfg && opConfigured s.cfg (.store w)) = true) : IllegalOperands (execStoreNative w o s) :=
  illegalOperands_of_enabled hop <| nativeList_illegal fun h1 => absurd (Bool.and_eq_true_iff.2 ⟨h1, configured_of_enabled hop⟩) h

theorem execLoad2_illegal (hop : opEnabled s.cfg .load2 = true) (h : ¬ (Instr.load2 o).operandsLegal s.cfg = true) :
    IllegalOperands (execLoad2 o s) :=
  illegalOperands_of_enabled hop <| .space fun h1 => absurd (by simpa [Instr.operandsLegal, spaceSupported_iff] using h1) h

theorem execStore2_illegal (hop : opEnabled s.cfg .store2 = true) (h : ¬ (Instr.store2 o).operandsLegal s.cfg = true) :
    IllegalOperands (execStore2 o s) :=
  illegalOperands_of_enabled hop <| .space fun h1 => absurd (by simpa [Instr.operandsLegal, spaceSupported_iff] using h1) h

theorem execShintw_illegal (hop : opEnabled s.cfg .shintw = true) (h : ¬ (Instr.shintw o).operandsLegal s.cfg = true) :
    IllegalOperands (execShintw o s) :=
  illegalOperands_of_enabled hop <| .operand fun ha => nativeList_illegal fun h1 =>
    absurd (by simp [Instr.operandsLegal, ha, h1]) h

theorem execJal_illegal (hop : opEnabled s.cfg .jal = true) (hb : o.b < s.cfg.p)
    (h : ¬ (Instr.jal o).operandsLegal s.cfg = true) : IllegalOperands (execJal o s) :=
  illegalOperands_of_enabled hop <| .operand fun hc => .space fun hd => .operand fun h1 => .operand fun h2 =>
    absurd (by simp [Instr.operandsLegal, hc, spaceSupported_iff.2 hd, h1, (nativeOffset_iff hb).2 h2]) h

theorem execNativeBranch_illegal {sense : Bool} {w : Nat} (hop : opEnabled s.cfg op = true) (hc : o.c < s.cfg.p)
    (h : ¬ (o.nativeList s.cfg && opConfigured s.cfg op && s.cfg.nativeOffset o.c) = true) :
    IllegalOperands (execNativeBranch op sense w o s) :=
  illegalOperands_of_enabled hop <| nativeList_illegal fun h1 => .operand fun h2 =>
    absurd (by simp [h1, configured_of_enabled hop, (nativeOffset_iff hc).2 h2]) h

theorem execPublish_illegal (hop : opEnabled s.cfg .publish = true) (h : ¬ (Instr.publish o).operandsLegal s.cfg = true) :
    IllegalOperands (execPublish o s) :=
  illegalOperands_of_enabled hop <| .operand fun hc => nativeList_illegal fun h1 =>
    absurd (by simp [Instr.operandsLegal, hc, h1]) h

theorem execCastf_illegal (hop : opEnabled s.cfg .castf = true) (h : ¬ (Instr.castf o).operandsLegal s.cfg = true) :
    IllegalOperands (execCastf o s) :=
  illegalOperands_of_enabled hop <| .operand fun hc => nativeList_illegal fun h1 =>
    absurd (by simp [Instr.operandsLegal, hc, h1]) h

theorem execField_illegal {f : Nat → Nat → Nat → Except Fault Nat} (hop : opEnabled s.cfg op = true)
    (h : ¬ o.fieldList s.cfg = true) : IllegalOperands (execField op f o s) :=
  illegalOperands_of_enabled hop <| .space fun h1 => .space fun h2 => .operand fun h3 =>
    absurd (fieldList_iff.2 ⟨h1, h2, h3⟩) h

theorem execExt_illegal {f : Nat → Ext → Ext → Except Fault Ext} (hop : opEnabled s.cfg op = true)
    (h : ¬ (o.nativeList s.cfg && opConfigured s.cfg op) = true) : IllegalOperands (execExt op f o s) :=
  illegalOperands_of_enabled hop <| nativeList_illegal fun h1 => absurd (Bool.and_eq_true_iff.2 ⟨h1, configured_of_enabled hop⟩) h

theorem execCompress_illegal (hop : opEnabled s.cfg .compressPoseidon2 = true) (h : ¬ o.nativeList s.cfg = true) :
    IllegalOperands (execCompressPoseidon2 o s) :=
  illegalOperands_of_enabled hop <| nativeList_illegal fun h1 => absurd h1 h

theorem execPerm_illegal (hop : opEnabled s.cfg .permPoseidon2 = true)
    (h : ¬ (Instr.permPoseidon2 o).operandsLegal s.cfg = true) : IllegalOperands (execPermPoseidon2 o s) :=
  illegalOperands_of_enabled hop <| .operand fun hc => nativeList_illegal fun h1 =>
    absurd (by simp [Instr.operandsLegal, hc, h1]) h

end faults

/-! ### Every instruction -/

theorem exec_illegal {i : Instr} {op : Op} {s : State} (hi : i.op = some op) (hop : opEnabled s.cfg op = true)
    (he : i.encodable s.cfg = true) (h : ¬ i.operandsLegal s.cfg = true) : IllegalOperands (exec i s) := by
  cases i with
  | terminate => cases hi; exact execTerminate_illegal hop h
  | phantom o =>
    cases hi
    exact runPhantom_illegal hop fun hq => absurd hq h
  | phantomNop | phantomDebugPanic | phantomHintInput | phantomCtStart | phantomCtEnd =>
    cases hi; exact runPhantom_illegal hop (noPhantomOperands_illegal h)
  | phantomPrintF q =>
    cases hi
    refine runPhantom_illegal hop fun hq => .operand fun hb => (cellRead_illegal fun hs => h ?_).bind
    simp [Instr.operandsLegal, hb, hq, spaceSupported_iff.2 hs]
  | phantomHintBits q =>
    cases hi
    refine runPhantom_illegal hop fun hq => .operand fun hb => (cellRead_illegal fun hs => h ?_).bind
    simp [Instr.operandsLegal, hb, hq, spaceSupported_iff.2 hs]
  | phantomHintFinalExpBn254 | phantomHintFinalExpBls12381 =>
    cases hi; exact runPhantom_illegal hop fun hq => absurd hq h
  | addRv32 | subRv32 | xorRv32 | orRv32 | andRv32 | sllRv32 | srlRv32 | sraRv32 | sltRv32 | sltuRv32 =>
    cases hi; exact execAlu_illegal hop h
  | loadbRv32 | loadhRv32 | loadwRv32 | loadbuRv32 | loadhuRv32 => cases hi; exact execLoad_illegal hop h
  | storebRv32 | storehRv32 | storewRv32 => cases hi; exact execStore_illegal hop h
  | beqRv32 | bneRv32 | bltRv32 | bgeRv32 | bltuRv32 | bgeuRv32 =>
    cases hi; exact execBranch_illegal hop (c_lt_of_areFelts he) h
  | jalRv32 => cases hi; exact execJalRv32_illegal hop (c_lt_of_areFelts he) h
  | jalrRv32 => cases hi; exact execJalrRv32_illegal hop h
  | luiRv32 => cases hi; exact execLui_illegal hop h
  | auipcRv32 => cases hi; exact execAuipc_illegal hop h
  | mulRv32 | mulhRv32 | mulhsuRv32 | mulhuRv32 | divRv32 | divuRv32 | remRv32 | remuRv32 =>
    cases hi; exact execMulDiv_illegal hop h
  | hintstorewRv32 => cases hi; exact execHintstorew_illegal hop h
  | revealRv32 => cases hi; exact execReveal_illegal hop h
  | keccak256Rv32 => cases hi; exact execKeccak_illegal hop h
  | add256Rv32 | sub256Rv32 | xor256Rv32 | or256Rv32 | and256Rv32 | sll256Rv32 | srl256Rv32 | sra256Rv32 | slt256Rv32
  | sltu256Rv32 | mul256Rv32 => cases hi; exact execInt256_illegal hop h
  | beq256Rv32 | bne256Rv32 | blt256Rv32 | bge256Rv32 | bltu256Rv32 | bgeu256Rv32 =>
    cases hi; exact execBranch256_illegal hop (c_lt_of_areFelts he) h
  | addmodRv32 | submodRv32 | mulmodRv32 | divmodRv32 => cases hi; exact execModular_illegal hop h
  | iseqmodRv32 => cases hi; exact execIseqmod_illegal hop h
  | swAddNe => cases hi; exact execSwAddNe_illegal hop h
  | swDouble => cases hi; exact execSwDouble_illegal hop h
  | load => cases hi; exact execLoadNative_illegal hop h
  | store => cases hi; exact execStoreNative_illegal hop h
  | load2 => cases hi; exact execLoad2_illegal hop h
  | store2 => cases hi; exact execStore2_illegal hop h
  | shintw => cases hi; exact execShintw_illegal hop h
  | jal => cases hi; exact execJal_illegal hop (b_lt_of_areFelts he) h
  | beq | bne => cases hi; exact execNativeBranch_illegal hop (c_lt_of_areFelts he) h
  | publish => cases hi; exact execPublish_illegal hop h
  | castf => cases hi; exact execCastf_illegal hop h
  | addf | subf | mulf | divf => cases hi; exact execField_illegal hop h
  | fe4add | fe4sub | bbe4mul | bbe4div => cases hi; exact execExt_illegal hop h
  | compressPoseidon2 => cases hi; exact execCompress_illegal hop h
  | permPoseidon2 => cases hi; exact execPerm_illegal hop h
  | _ => cases hi

end Sys2Proof.Machine

namespace Sys2Proof

open Machine

/-- Settles O16: each list is what the first checks of its instruction ask. -/
theorem illegalOperandsFault : Obligations.IllegalOperandsFault :=
  fun _ _ _ hi hop he h => exec_illegal hi hop he (Bool.eq_false_iff.1 h)

end Sys2Proof
end

section
/-!
PROOF. The transpiler emits operands in range: register pointers and extended immediates are small, offsets are field elements of small
integers, and each row of R480 to R557 writes the list its instruction asks for.
-/

namespace Sys2Proof.Machine

section legal

variable {cfg : Config} {i j : Instr} {w : Word} {a b c e f : Nat} {rd : BitVec 5} {imm : BitVec 12}

/-- An axVM instruction of field elements with a legal operand list (R124, R126). -/
def LegalIn (cfg : Config) (j : Instr) : Prop := j.op ≠ none ∧ j.encodable cfg = true ∧ j.operandsLegal cfg = true

/-! ### The functions of R472 -/

theorem lt_prime (hw : cfg.Wf) (h : a < 2 ^ 24) : a < cfg.p := by
  have := Config.Wf.prime_gt hw
  omega

theorem ind_lt (r : BitVec 5) : ind r < 2 ^ 24 := by
  have := r.isLt
  unfold ind
  omega

theorem signExtend24_lt : signExtend24 imm < 2 ^ 24 := BitVec.isLt _

theorem signExtend16_lt : signExtend16 imm < 2 ^ 16 := BitVec.isLt _

theorem writeEnable_eq : writeEnable rd = 0 ∨ writeEnable rd = 1 := by
  unfold writeEnable
  split_ifs <;> simp

theorem immediate24_signExtend24 : immediate24 (signExtend24 imm) = true := by
  have := imm.isLt
  have hmsb : imm.msb = decide (2 ^ 11 ≤ imm.toNat) := BitVec.msb_eq_decide imm
  have hval : signExtend24 imm = imm.toNat + if imm.msb then 2 ^ 24 - 2 ^ 12 else 0 := by
    rw [signExtend24, BitVec.toNat_signExtend, BitVec.toNat_setWidth, Nat.mod_eq_of_lt (by omega)]
  rw [immediate24_iff, hval, hmsb]
  simp only [AluImmediate, decide_eq_true_eq]
  split_ifs <;> omega

theorem immediate24_shamt (shamt : BitVec 5) : immediate24 shamt.toNat = true := by
  have := shamt.isLt
  rw [immediate24_iff, AluImmediate]
  split_ifs <;> omega

theorem fe_lt_prime (hw : cfg.Wf) (v : Int) : fe cfg.p v < cfg.p := fe_lt (by have := Config.Wf.prime_gt hw; omega) v

/-- The field element of a small integer is a branch offset (R126, R472). -/
theorem offset25_fe (hw : cfg.Wf) {v : Int} (h0 : -(2 ^ 24) ≤ v) (h1 : v < 2 ^ 24) : offset25 cfg.p (fe cfg.p v) = true := by
  have hp := Config.Wf.prime_gt hw
  have hcentred : centred cfg.p (fe cfg.p v) = v := centred_fe (bound := 2 ^ 24) (by omega) (by omega) (by omega)
  rw [offset25_iff (fe_lt_prime hw v), BranchOffset, hcentred]
  exact ⟨h0, h1⟩

theorem offset25_itofB (hw : cfg.Wf) (imm : BitVec 12) : offset25 cfg.p (itofB cfg.p imm) = true :=
  have h0 := BitVec.le_toInt (imm ++ (0 : BitVec 1))
  have h1 := BitVec.toInt_lt (x := imm ++ (0 : BitVec 1))
  offset25_fe hw (by omega) (by omega)

theorem offset25_itofJ (hw : cfg.Wf) (imm : BitVec 20) : offset25 cfg.p (itofJ cfg.p imm) = true :=
  have h0 := BitVec.le_toInt (imm ++ (0 : BitVec 1))
  have h1 := BitVec.toInt_lt (x := imm ++ (0 : BitVec 1))
  offset25_fe hw (by omega) (by omega)

/-! ### The operand rows -/

theorem baseForm_areFelts (hw : cfg.Wf) (ha : a < 2 ^ 24) (hb : b < 2 ^ 24) (hc : c < cfg.p) (he : e ≤ 3) :
    (baseForm a b c e).areFelts cfg.p = true :=
  have zero : 0 < cfg.p := lt_prime hw (by norm_num)
  have one : 1 < cfg.p := lt_prime hw (by norm_num)
  areFelts_iff.2 ⟨lt_prime hw ha, lt_prime hw hb, hc, one, lt_prime hw (he.trans_lt (by norm_num)), zero, zero⟩

theorem regForm_areFelts (hw : cfg.Wf) {x y z : BitVec 5} (he : e ≤ 3) : (regForm x y z e).areFelts cfg.p = true :=
  baseForm_areFelts hw (ind_lt x) (ind_lt y) (lt_prime hw (ind_lt z)) he

theorem immForm_areFelts (hw : cfg.Wf) {x y : BitVec 5} (hc : c < cfg.p) (he : e ≤ 3) : (immForm x y c e).areFelts cfg.p = true :=
  baseForm_areFelts hw (ind_lt x) (ind_lt y) hc he

theorem jumpForm_areFelts (hw : cfg.Wf) (hb : b < 2 ^ 24) (hc : c < cfg.p) (hf : f ≤ 1) :
    (jumpForm rd b c f).areFelts cfg.p = true :=
  have zero : 0 < cfg.p := lt_prime hw (by norm_num)
  have one : 1 < cfg.p := lt_prime hw (by norm_num)
  areFelts_iff.2 ⟨lt_prime hw (ind_lt rd), lt_prime hw hb, hc, one, zero, hf.trans_lt one, zero⟩

theorem exitForm_areFelts (hw : cfg.Wf) : (exitForm imm).areFelts cfg.p = true :=
  have zero : 0 < cfg.p := lt_prime hw (by norm_num)
  areFelts_iff.2 ⟨zero, zero, lt_prime hw (imm.isLt.trans (by norm_num)), zero, zero, zero, zero⟩

theorem noPhantom_areFelts (hw : cfg.Wf) {disc : Nat} (hd : disc < 9) : noPhantom.areFelts cfg.p disc = true := by
  have zero : 0 < cfg.p := lt_prime hw (by norm_num)
  have hdisc : disc < cfg.p := lt_prime hw (hd.trans (by norm_num))
  simp [PhantomOperands.areFelts, noPhantom, zero, hdisc]

theorem immForm_loadStoreList (hw : cfg.Wf) {x y : BitVec 5} : (immForm x y (signExtend16 imm) 2).loadStoreList cfg = true :=
  loadStoreList_iff.2 ⟨⟨rfl, rfl, rfl⟩, Config.Wf.validSpace hw (s := 2) (by norm_num) (by norm_num), signExtend16_lt⟩

theorem immForm_aluList {x y : BitVec 5} (h : immediate24 c = true) : (immForm x y c 0).aluList = true :=
  aluList_iff.2 ⟨⟨rfl, .inl rfl, rfl, rfl⟩, fun _ => immediate24_iff.1 h⟩

theorem legalIn_nop (hw : cfg.Wf) : LegalIn cfg (.phantomNop noPhantom) :=
  ⟨Option.some_ne_none _, noPhantom_areFelts hw (by norm_num), rfl⟩

/-! ### The words of the 256-bit branches -/

/-- A word has the `funct7`, `funct3` and opcode of the instruction it decodes to: no mask hides them (D38). -/
theorem fields_of_decodeWord {f7 opc : BitVec 7} {f3 : BitVec 3} {rs1 rs2 : BitVec 5} (hd : decodeWord w = some i)
    (he : encodeWord i = some (packWord f7 rs2 rs1 f3 rd opc)) : rvFunct7 w = f7 ∧ rvFunct3 w = f3 ∧ rvOpcode w = opc := by
  obtain ⟨w', hw', hmask⟩ := decodeWord_hasWordUpTo i hd
  obtain rfl := Option.some.inj (he.symm.trans hw')
  obtain ⟨h7, h3, ho⟩ := careMask_fields (w := w)
  have all7 (x : BitVec 7) : x &&& 127 = x := BitVec.and_allOnes
  have all3 (x : BitVec 3) : x &&& 7 = x := BitVec.and_allOnes
  have e7 := congrArg rvFunct7 hmask
  have e3 := congrArg rvFunct3 hmask
  have eo := congrArg rvOpcode hmask
  simp only [rvFunct7_and, rvFunct3_and, rvOpcode_and, h7, h3, ho, all7, all3] at e7 e3 eo
  exact ⟨by simpa using e7.symm, by simpa using e3.symm, by simpa using eo.symm⟩

theorem toNat_rvFunct7 : (rvFunct7 w).toNat = (w >>> 25).toNat := by
  have := w.isLt
  simp only [rvFunct7, BitVec.extractLsb'_toNat, BitVec.toNat_ushiftRight, Nat.shiftRight_eq_div_pow]
  omega

/-- A word outside the six rows of R146 is no 256-bit branch. -/
theorem not_branch256 {f7 : BitVec 7} {rs1 rs2 : BitVec 5} (hd : decodeWord w = some i)
    (hb : w &&& 0x707F#32 ≠ 0x500B#32 ∨ (w >>> 25).toNat < 10 ∨ (w >>> 25).toNat = 16)
    (he : encodeWord i = some (packWord f7 rs2 rs1 5 rd 0x0B)) (h : 10 ≤ f7.toNat ∧ f7.toNat ≤ 15) : False := by
  obtain ⟨h7, h3, ho⟩ := fields_of_decodeWord hd he
  have hsel : w &&& 0x707F#32 = 0x500B#32 := and_selector_eq_iff.2 ⟨h3, ho⟩
  rw [← toNat_rvFunct7, h7] at hb
  rcases hb with hb | hb | hb
  · exact hb hsel
  all_goals omega

/-! ### Every row -/

theorem transpile_answers_legal (hw : cfg.Wf) (hd : decodeWord w = some i)
    (hb : w &&& 0x707F#32 ≠ 0x500B#32 ∨ (w >>> 25).toNat < 10 ∨ (w >>> 25).toNat = 16) :
    Answers (LegalIn cfg) (transpile cfg i) := by
  have hop : i.op = none := decodeWord_answersWord i hd
  have isOp (op : Op) : some op ≠ none := Option.some_ne_none op
  have reg {x y z : BitVec 5} {e : Nat} (he : e ≤ 3) : (regForm x y z e).areFelts cfg.p = true := regForm_areFelts hw he
  have hs24 (imm : BitVec 12) : signExtend24 imm < cfg.p := lt_prime hw signExtend24_lt
  have hs16 (imm : BitVec 12) : signExtend16 imm < 2 ^ 24 := signExtend16_lt.trans (by norm_num)
  have h20 (imm : BitVec 20) : imm.toNat < 2 ^ 24 := imm.isLt.trans (by norm_num)
  cases i with
  | rvAdd | rvSub | rvXor | rvOr | rvAnd | rvSll | rvSrl | rvSra | rvSlt | rvSltu | rvMul | rvMulh | rvMulhsu | rvMulhu | rvDiv
  | rvDivu | rvRem | rvRemu => exact answers_unlessX0 (legalIn_nop hw) ⟨isOp _, reg (by norm_num), rfl⟩
  | rvAddi _ _ imm | rvXori _ _ imm | rvOri _ _ imm | rvAndi _ _ imm | rvSlti _ _ imm | rvSltiu _ _ imm =>
    exact answers_unlessX0 (legalIn_nop hw)
      ⟨isOp _, immForm_areFelts hw (hs24 imm) (by norm_num), immForm_aluList immediate24_signExtend24⟩
  | rvSlli _ _ shamt | rvSrli _ _ shamt | rvSrai _ _ shamt =>
    exact answers_unlessX0 (legalIn_nop hw)
      ⟨isOp _, immForm_areFelts hw (lt_prime hw (shamt.isLt.trans (by norm_num))) (by norm_num),
        immForm_aluList (immediate24_shamt shamt)⟩
  | rvLb _ _ imm | rvLh _ _ imm | rvLw _ _ imm | rvLbu _ _ imm | rvLhu _ _ imm =>
    exact answers_unlessX0 (legalIn_nop hw)
      ⟨isOp _, immForm_areFelts hw (lt_prime hw (hs16 imm)) (by norm_num), immForm_loadStoreList hw⟩
  | rvSb _ _ imm | rvSh _ _ imm =>
    exact answers_ok ⟨isOp _, immForm_areFelts hw (lt_prime hw (hs16 imm)) (by norm_num), immForm_loadStoreList hw⟩
  | rvSw rs1 rs2 imm =>
    have hfelts : (immForm rs2 rs1 (signExtend16 imm) 2).areFelts cfg.p = true :=
      immForm_areFelts hw (lt_prime hw (hs16 imm)) (by norm_num)
    exact answers_ok ⟨isOp _, Bool.and_eq_true_iff.2 ⟨hfelts, rfl⟩, immForm_loadStoreList hw⟩
  | rvBeq _ _ imm | rvBne _ _ imm | rvBlt _ _ imm | rvBge _ _ imm | rvBltu _ _ imm | rvBgeu _ _ imm =>
    exact answers_ok ⟨isOp _, immForm_areFelts hw (fe_lt_prime hw _) (by norm_num), offset25_itofB hw imm⟩
  | rvJal rd imm =>
    refine answers_ok ⟨isOp _, jumpForm_areFelts hw (by norm_num) (fe_lt_prime hw _) ?_, ?_⟩
    · rcases writeEnable_eq (rd := rd) with h | h <;> omega
    · simp [Instr.operandsLegal, jumpForm, writeEnable_eq, offset25_itofJ hw imm]
  | rvJalr rd rs1 imm =>
    refine answers_ok ⟨isOp _, jumpForm_areFelts hw (ind_lt rs1) (lt_prime hw (hs16 imm)) ?_, ?_⟩
    · rcases writeEnable_eq (rd := rd) with h | h <;> omega
    · simp [Instr.operandsLegal, jumpForm, writeEnable_eq, signExtend16_lt, -Nat.reducePow]
  | rvLui _ imm | rvAuipc _ imm =>
    exact answers_unlessX0 (legalIn_nop hw)
      ⟨isOp _, jumpForm_areFelts hw (by norm_num) (lt_prime hw (h20 imm)) (by norm_num), decide_eq_true imm.isLt⟩
  | rvTerminate => exact answers_ok ⟨isOp _, exitForm_areFelts hw, rfl⟩
  | rvHintstorew rd imm =>
    exact answers_ok ⟨isOp _, baseForm_areFelts hw (by norm_num) (ind_lt rd) (lt_prime hw (hs16 imm)) (by norm_num),
      decide_eq_true signExtend16_lt⟩
  | rvReveal rs1 rd imm =>
    have hfelts : (baseForm (ind rs1) (ind rd) (signExtend16 imm) 3).areFelts cfg.p = true :=
      baseForm_areFelts hw (ind_lt rs1) (ind_lt rd) (lt_prime hw (hs16 imm)) (by norm_num)
    exact answers_ok ⟨isOp _, Bool.and_eq_true_iff.2 ⟨hfelts, rfl⟩, decide_eq_true signExtend16_lt⟩
  | rvHintinput => exact answers_ok ⟨isOp _, noPhantom_areFelts hw (by norm_num), rfl⟩
  | rvKeccak256 =>
    have hspace := spaceSupported_iff.2 (Config.Wf.validSpace hw (s := 2) (by norm_num) (by norm_num))
    exact answers_ok ⟨isOp _, reg (by norm_num), by simp [Instr.operandsLegal, regForm, hspace]⟩
  | rvAdd256 | rvSub256 | rvXor256 | rvOr256 | rvAnd256 | rvSll256 | rvSrl256 | rvSra256 | rvSlt256 | rvSltu256 | rvMul256 =>
    exact answers_ok ⟨isOp _, reg (by norm_num), rfl⟩
  | rvBeq256 | rvBne256 | rvBlt256 | rvBge256 | rvBltu256 | rvBgeu256 => exact (not_branch256 hd hb rfl (by decide)).elim
  | rvAddmod | rvSubmod | rvMulmod | rvDivmod =>
    exact answers_withModulus fun hidx => ⟨isOp _, reg (by norm_num), decide_eq_true hidx⟩
  | rvIseqmod =>
    exact answers_unless_iseqmodIntoX0 <| answers_withModulus fun hidx => ⟨isOp _, reg (by norm_num), decide_eq_true hidx⟩
  | rvSwAddNe => exact answers_withCurve fun hidx => ⟨isOp _, reg (by norm_num), decide_eq_true hidx⟩
  | rvSwDouble _ rd rs1 =>
    exact answers_withCurve fun hidx =>
      ⟨isOp _, baseForm_areFelts hw (ind_lt rd) (ind_lt rs1) (lt_prime hw (by norm_num)) (by norm_num), decide_eq_true hidx⟩
  | _ => cases hop

end legal

end Sys2Proof.Machine

namespace Sys2Proof

open Machine

/-- Settles O19: each row of the transpiler writes the list of its instruction. -/
theorem transpiledInstructionsAreLegal : Obligations.TranspiledInstructionsAreLegal :=
  fun _ _ _ j hw hd ht hb => transpile_answers_legal hw hd hb j ht

end Sys2Proof
end

section
/-!
PROOF. `PHANTOM`, its sub-instructions and `SHINTW` (`40_system.md`): what the effect of a sub-instruction makes of the state, and the hint
stream as the instructions fill and empty it.
-/

namespace Sys2Proof.Machine

/-! ### The skeleton -/

section phantom

variable {effect : State → Nat → Nat → Nat → Except Fault State} {s u : State} {a b c v n : Nat} {cause : Fault}

/-- A sub-instruction that leaves the configuration and `pc` alone is followed by the default step. -/
theorem runPhantom_of_effect (hr : s.Ready .phantom) (hu : effect s a b c = .ok u) (hcfg : u.cfg = s.cfg) (hpc : u.pc = s.pc) :
    runPhantom effect ⟨a, b, c, 0, 0, 0, 0⟩ s = .next { u with pc := s.pc + 4 } := by
  have hstep : fadd u.cfg.p u.pc 4 = s.pc + 4 := by rw [hcfg, hpc, fadd_four hr.1 hr.2.2]
  have hlt : u.StepOk := by rw [State.StepOk, hstep]; exact hr.2.2
  exact runPhantom_next.2 ⟨hr.2.1, ⟨rfl, rfl, rfl, rfl⟩, u, hu, hlt, by rw [hstep]⟩

/-- The fault of a sub-instruction is that of the instruction. -/
theorem runPhantom_of_fault (hop : opEnabled s.cfg .phantom = true) (he : effect s a b c = .error cause) :
    runPhantom effect ⟨a, b, c, 0, 0, 0, 0⟩ s = .fault cause := by
  have hop' : s.requireOp .phantom = .ok () := requireOp_ok.2 hop
  simp only [runPhantom, outcome_fault, hop', require_of, and_self, he, ok_bind, error_bind]

/-! ### The selection by the discriminant -/

/-- `PHANTOM` and the instruction that its operands decode to run the same sub-instruction (R190). -/
theorem exec_phantom_eq_decodePhantom (o : Operands) (s : State) : exec (.phantom o) s = exec (decodePhantom o) s := by
  have hrun : exec (.phantom o) s = runPhantom (phantomEffect (o.c % 65536)) o.toPhantom s := rfl
  rcases Nat.lt_or_ge (o.c % 65536) 9 with hassigned | hunassigned
  · unfold decodePhantom
    generalize o.c % 65536 = disc at hrun hassigned
    interval_cases disc <;> exact hrun
  · rw [decodePhantom_of_unassigned hunassigned]

/-- The discriminants from 9 on are not assigned (R198). -/
theorem phantomEffect_of_unassigned {disc : Nat} (h : 9 ≤ disc) : phantomEffect disc = phantomUnknownEffect := by
  obtain ⟨k, rfl⟩ := Nat.exists_eq_add_of_le' h
  rfl

/-! ### The hint stream -/

theorem phantomHintInputEffect_of_empty (h : s.inputStream = []) : phantomHintInputEffect s 0 0 0 = .error .inputStreamEmpty := by
  simp only [phantomHintInputEffect, noPhantomOperands, require_of, and_self, ok_bind, h]

/-- The word `hintinput` is `PHANTOM` with the discriminant of `HINT_INPUT` (R532). -/
theorem exec_rvHintinput_eq_phantomHintInput (s : State) : exec .rvHintinput s = exec (.phantomHintInput ⟨0, 0, 0, 0, 0, 0, 0⟩) s := rfl

@[simp] theorem lowBits_length (v n : Nat) : (lowBits v n).length = n := by simp [lowBits]

theorem lowBits_getElem {k : Nat} (h : k < (lowBits v n).length) : (lowBits v n)[k] = v / 2 ^ k % 2 := by simp [lowBits]

/-- Bit 0 comes first, and the other bits are those of the half. -/
theorem lowBits_succ (v n : Nat) : lowBits v (n + 1) = v % 2 :: lowBits (v / 2) n := by
  simp [lowBits, List.range_succ_eq_map, pow_succ', Nat.div_div_eq_div_mul]

/-- The `n` low bits are those of the residue modulo `2^n` (R193). -/
theorem foldr_lowBits (v n : Nat) : (lowBits v n).foldr (fun x acc => x + 2 * acc) 0 = v % 2 ^ n := by
  induction n generalizing v with
  | zero => simp [lowBits, Nat.mod_one]
  | succ n ih => rw [lowBits_succ, List.foldr_cons, ih, pow_succ', Nat.mod_mul]

end phantom

/-! ### `SHINTW` -/

section shintw

variable {s : State} {b c d e q h : Nat} {rest : List Nat}

/-- Fewer hint elements than an instruction takes (R199). -/
theorem hintPeek_of_short {n : Nat} (hn : s.hintStream.length < n) : s.hintPeek n = .error .hintStreamEmpty := by
  simp only [State.hintPeek, require_not (Nat.not_le.2 hn), error_bind]

/-- The pointer is computed before the stream is read, and its target checked after (R434). -/
theorem execShintw_of_empty (hop : opEnabled s.cfg .shintw = true) (hd : ValidSpace s.cfg d) (he : ValidSpace s.cfg e)
    (hc : s.Fits c 1) (hs : s.hintStream = []) : execShintw ⟨0, b, c, d, e, 0, 0⟩ s = .fault .hintStreamEmpty := by
  have hop' : s.requireOp .shintw = .ok () := requireOp_ok.2 hop
  have hspaces : s.nativeSpaces d e = .ok () := nativeSpaces_ok.2 ⟨hd, he⟩
  have hfg : noFG ⟨0, b, c, d, e, 0, 0⟩ = .ok () := noFG_ok.2 ⟨rfl, rfl⟩
  have hptr : s.nativePointer d c b = .ok _ := nativePointer_ok.2 ⟨⟨hd, hc⟩, rfl⟩
  have hpeek : s.hintPeek 1 = .error .hintStreamEmpty := hintPeek_of_short (by simp [hs])
  simp only [execShintw, outcome_fault, hop', require_of, hspaces, hfg, hptr, hpeek, ok_bind, error_bind]

/-- With an element in the stream, `SHINTW` writes that cell in the state without the element. -/
theorem execShintw_of_hint (hr : s.Ready .shintw) (hd : ValidSpace s.cfg d) (he : ValidSpace s.cfg e) (hc : s.Fits c 1)
    (hs : s.hintStream = h :: rest) (hq : s.Fits (fadd s.cfg.p (s.mem.read ⟨d, c⟩) b) 1) :
    execShintw ⟨0, b, c, d, e, 0, 0⟩ s =
      .next (({ s with hintStream := rest } : State).wrote e (fadd s.cfg.p (s.mem.read ⟨d, c⟩) b) [h]) := by
  refine execShintw_next.2 ⟨⟨hr.2.1, ⟨hd, he⟩, rfl, rfl⟩, rfl, ⟨hd, hc⟩, ?_, ⟨he, hq⟩, stepOk_of_ready hr, ?_⟩
  · simp [hs]
  · simp [hs]

end shintw

end Sys2Proof.Machine

namespace Sys2Proof

open Machine

/-- Settles O23: the effect takes the first vector if there is one, and its length is a field element. -/
theorem hintInputResetsTheHintStream : Obligations.HintInputResetsTheHintStream := by
  intro s i hr hi
  have hi' : exec i s = runPhantom phantomHintInputEffect ⟨0, 0, 0, 0, 0, 0, 0⟩ s := by
    rcases hi with rfl | rfl
    · rfl
    · exact exec_rvHintinput_eq_phantomHintInput s
  rw [hi']
  refine ⟨fun hint rest hs hlt => ?_, fun hs => ?_⟩
  · have heffect := phantomHintInputEffect_ok.2 ⟨⟨rfl, rfl, rfl⟩, hint, rest, hs, rfl⟩
    rw [Nat.mod_eq_of_lt hlt] at heffect
    exact runPhantom_of_effect hr heffect rfl rfl
  · exact runPhantom_of_fault hr.2.1 (phantomHintInputEffect_of_empty hs)

/-- Settles O24: the bits are `lowBits` of the cell. -/
theorem hintBitsDecomposesTheCell : Obligations.HintBitsDecomposesTheCell := by
  intro s a b sp hr hsp ha hb
  refine ⟨lowBits (s.mem.read ⟨sp, a⟩) b, lowBits_length _ _, fun _ => lowBits_lt, fun _ => lowBits_getElem, foldr_lowBits _ _, ?_⟩
  exact runPhantom_of_effect hr (phantomHintBitsEffect_ok.2 ⟨hb, ⟨hsp, ha⟩, rfl⟩) rfl rfl

/-- Settles O25: an assigned discriminant decodes to its sub-instruction, and any other has the effect of none. -/
theorem phantomSelectsTheSubInstruction : Obligations.PhantomSelectsTheSubInstruction := by
  intro s
  refine ⟨fun hr => ?_, fun o _ => exec_phantom_eq_decodePhantom o s, ?_⟩
  · exact runPhantom_of_effect hr (phantomNopEffect_ok.2 ⟨⟨rfl, rfl, rfl⟩, rfl⟩) rfl rfl
  · rintro ⟨a, b, c, d, e, f, g⟩ h9 hop rfl rfl rfl rfl
    exact runPhantom_of_fault hop (by rw [phantomEffect_of_unassigned h9]; rfl)

/-- Settles O52. -/
theorem shintwStoresTheHint : Obligations.ShintwStoresTheHint := by
  rintro s b c d e q hr hd he hc rfl
  refine ⟨fun h rest hs hq => ⟨_, execShintw_of_hint hr hd he hc hs hq, ?_⟩, execShintw_of_empty hr.2.1 hd he hc⟩
  refine wrote_of_ready (s := { s with hintStream := rest }) hr rfl fun k hk => ?_
  obtain rfl : k = 0 := by omega
  rfl

/-- Settles O22: each effect is at most one event of the host's sinks. -/
theorem quietPhantomsOnlyAdvance : Obligations.QuietPhantomsOnlyAdvance := by
  intro s hr
  refine ⟨?_, ?_, ?_, fun a sp hsp ha => ?_⟩
  · exact runPhantom_of_effect hr (phantomNopEffect_ok.2 ⟨⟨rfl, rfl, rfl⟩, rfl⟩) rfl rfl
  · exact runPhantom_of_effect hr (phantomCtStartEffect_ok.2 ⟨⟨rfl, rfl, rfl⟩, rfl⟩) rfl rfl
  · exact runPhantom_of_effect hr (phantomCtEndEffect_ok.2 ⟨⟨rfl, rfl, rfl⟩, rfl⟩) rfl rfl
  · exact runPhantom_of_effect hr (phantomPrintFEffect_ok.2 ⟨rfl, ⟨hsp, ha⟩, rfl⟩) rfl rfl

/-- Settles O26: the three effects are faults for every state. -/
theorem panicAndUndescribedPhantomsFault : Obligations.PanicAndUndescribedPhantomsFault :=
  fun _ hop => ⟨runPhantom_of_fault hop rfl, fun _ _ _ => ⟨runPhantom_of_fault hop rfl, runPhantom_of_fault hop rfl⟩⟩

end Sys2Proof
end

section
/-!
PROOF. The ten RV32 ALU instructions (`41_rv32_alu.md`): each operation read as a number, and the skeleton run on operands that hold
values.
-/

namespace Sys2Proof.Machine

/-! ### The operations as numbers -/

section values

variable (x y : Word)

theorem aluAdd_toNat : (aluAdd x y).toNat = (x.toNat + y.toNat) % 2 ^ 32 := BitVec.toNat_add x y

theorem aluSub_toNat : (aluSub x y).toNat = (x.toNat + (2 ^ 32 - y.toNat)) % 2 ^ 32 := BitVec.toNat_sub' x y

theorem aluXor_toNat : (aluXor x y).toNat = x.toNat ^^^ y.toNat := BitVec.toNat_xor x y

theorem aluOr_toNat : (aluOr x y).toNat = x.toNat ||| y.toNat := BitVec.toNat_or x y

theorem aluAnd_toNat : (aluAnd x y).toNat = x.toNat &&& y.toNat := BitVec.toNat_and x y

theorem aluSll_toNat : (aluSll x y).toNat = x.toNat * 2 ^ (y.toNat % 32) % 2 ^ 32 := by
  rw [aluSll, shamt32, BitVec.toNat_shiftLeft, Nat.shiftLeft_eq]

theorem aluSrl_toNat : (aluSrl x y).toNat = x.toNat / 2 ^ (y.toNat % 32) := by
  rw [aluSrl, shamt32, BitVec.toNat_ushiftRight, Nat.shiftRight_eq_div_pow]

/-- The arithmetic shift is the floor division of the signed value (R230). -/
theorem aluSra_toNat : (aluSra x y).toNat = (x.toInt / 2 ^ (y.toNat % 32) % 2 ^ 32).toNat := by
  rw [aluSra, shamt32, BitVec.sshiftRight, BitVec.toNat_ofInt, Int.shiftRight_eq_div_pow]
  norm_cast

theorem boolWord_decide_toNat (c : Prop) [Decidable c] : (boolWord 32 (decide c)).toNat = if c then 1 else 0 := by
  by_cases h : c <;> simp [boolWord, h]

theorem aluSlt_toNat : (aluSlt x y).toNat = if x.toInt < y.toInt then 1 else 0 := boolWord_decide_toNat _

theorem aluSltu_toNat : (aluSltu x y).toNat = if x.toNat < y.toNat then 1 else 0 := boolWord_decide_toNat _

end values

/-! ### The second operand -/

/-- Where bits 23 to 16 copy bit 15, the number has one signed value in 16 and in 24 bits (R221). -/
theorem sext32_of_aluImmediate {c : Nat} (h : AluImmediate c) : sext32 16 c = (BitVec.ofNat 24 c).signExtend 32 := by
  obtain ⟨hlt, hcopy⟩ := h
  apply BitVec.eq_of_toInt_eq
  rw [sext32, BitVec.toInt_signExtend_of_le (by norm_num), BitVec.toInt_signExtend_of_le (by norm_num),
    BitVec.toInt_ofNat', BitVec.toInt_ofNat', Int.bmod_def, Int.bmod_def]
  split_ifs at hcopy <;> split_ifs <;> omega

section skeleton

variable {s : State} {op : Op} {f : Word → Word → Word} {a b c e : Nat} {x y : Word}

/-- The second operand of an ALU instruction is `y`: a register that holds it for `e = 1`, an immediate that extends to it for `e = 0`
(R221). -/
abbrev State.SecondOperand (s : State) (c e : Nat) (y : Word) : Prop :=
  e = 1 ∧ s.Holds c y ∨ e = 0 ∧ AluImmediate c ∧ y = (BitVec.ofNat 24 c).signExtend 32

theorem op2_of_secondOperand (hw : s.cfg.Wf) (h : s.SecondOperand c e y) : s.op2 c e = .ok y := by
  rcases h with ⟨rfl, hy⟩ | ⟨rfl, himm, rfl⟩
  · exact op2_ok.2 (.inr ⟨Nat.one_ne_zero, reg32_of_holds hw hy⟩)
  · exact op2_ok.2 (.inl ⟨rfl, (sext32_of_aluImmediate himm).symm⟩)

/-- An ALU instruction whose operands hold values writes the result and steps (R220 to R222). -/
theorem execAlu_of_holds (hr : s.Ready op) (ha : s.RegPtr a) (hx : s.Holds b x) (hy : s.SecondOperand c e y) :
    execAlu op f ⟨a, b, c, 1, e, 0, 0⟩ s = .next (s.wrote 1 a (leBytes (f x y).toNat 4)) := by
  have hform : (e = 0 ∨ e = 1) ∧ (e = 0 → AluImmediate c) := by
    rcases hy with ⟨rfl, -⟩ | ⟨rfl, himm, -⟩
    · exact ⟨.inr rfl, fun h => absurd h Nat.one_ne_zero⟩
    · exact ⟨.inl rfl, fun _ => himm⟩
  exact execAlu_next.2 ⟨hr.2.1, ⟨rfl, hform.1, rfl, rfl⟩, hform.2, x, y, reg32_of_holds hr.1 hx, op2_of_secondOperand hr.1 hy,
    regOk_of_regPtr hr.1 ha, stepOk_of_ready hr, rfl⟩

end skeleton

end Sys2Proof.Machine

namespace Sys2Proof

open Machine

/-- Settles O27: each instruction is the ALU skeleton on its operation, whose result is the number of its row. -/
theorem aluWritesItsResult : Obligations.AluWritesItsResult := by
  intro row hrow s a b c e x y hr ha hx hy
  obtain ⟨f, hexec, hval⟩ :
      ∃ f, (∀ o, exec (row.1 o) s = execAlu row.2.1 f o s) ∧ ∀ x y, (f x y).toNat = row.2.2 x y := by
    simp only [List.mem_cons, List.not_mem_nil, or_false] at hrow
    rcases hrow with rfl | rfl | rfl | rfl | rfl | rfl | rfl | rfl | rfl | rfl
    · exact ⟨aluAdd, fun _ => rfl, aluAdd_toNat⟩
    · exact ⟨aluSub, fun _ => rfl, aluSub_toNat⟩
    · exact ⟨aluXor, fun _ => rfl, aluXor_toNat⟩
    · exact ⟨aluOr, fun _ => rfl, aluOr_toNat⟩
    · exact ⟨aluAnd, fun _ => rfl, aluAnd_toNat⟩
    · exact ⟨aluSll, fun _ => rfl, aluSll_toNat⟩
    · exact ⟨aluSrl, fun _ => rfl, aluSrl_toNat⟩
    · exact ⟨aluSra, fun _ => rfl, aluSra_toNat⟩
    · exact ⟨aluSlt, fun _ => rfl, aluSlt_toNat⟩
    · exact ⟨aluSltu, fun _ => rfl, aluSltu_toNat⟩
  refine ⟨s.wrote 1 a (leBytes (f x y).toNat 4), (hexec _).trans (execAlu_of_holds hr ha hx hy), ?_⟩
  rw [← hval]
  exact wrote_bytes_of_ready hr

end Sys2Proof
end

section
/-!
PROOF. The RV32 loads, the stores and `REVEAL_RV32` (`42_rv32_loadstore.md`): the address that an access computes, and the two skeletons
run on operands and cells that hold values.
-/

namespace Sys2Proof.Machine

section access

variable {s t : State} {op : Op} {o : Operands} {conv : List Nat → Word} {a b c e n q v : Nat} {y : Word}

/-- The operands of an access of `n` cells: the register at `b` displaced by the immediate `c` is the pointer `q`, aligned to `n`, to `n`
cells that exist in the space `e` (R251 to R253). -/
structure State.Addresses (s : State) (b c e q n : Nat) : Prop where
  space : ValidSpace s.cfg e
  imm : c < 2 ^ 16
  base : ∃ x, s.Holds b x ∧ displaced x c = q
  aligned : q % n = 0
  fits : s.Fits q n

theorem effectiveAddress_of_addresses (hw : s.cfg.Wf) (hn : 0 < n) (h : s.Addresses b c e q n) :
    s.effectiveAddress b c n = .ok q := by
  obtain ⟨-, -, ⟨x, hx, hq⟩, halign, hfits⟩ := h
  exact effectiveAddress_ok.2 ⟨x, reg32_of_holds hw hx, hq, (Nat.add_le_add_left hn q).trans hfits, halign⟩

theorem loadStoreOk_of_addresses (hr : s.Ready op) (ha : s.RegPtr a) (h : s.Addresses b c e q n) :
    s.LoadStoreOk op ⟨a, b, c, 1, e, 0, 0⟩ := by
  obtain ⟨hspace, himm, ⟨_, hx, -⟩, -, -⟩ := h
  exact ⟨hr.2.1, ⟨rfl, rfl, rfl⟩, hspace, himm, regOk_of_regPtr hr.1 ha, regOk_of_regPtr hr.1 hx.1⟩

/-- A load from cells that hold bytes writes what they stand for to the register `a` and steps. -/
theorem execLoad_of_addresses (hr : s.Ready op) (hn : 0 < n) (ha : s.RegPtr a) (h : s.Addresses b c e q n)
    (hv : s.HoldsBytes e q n v) :
    execLoad op n conv ⟨a, b, c, 1, e, 0, 0⟩ s = .next (s.wrote 1 a (leBytes (conv (s.mem.readCells e q n)).toNat 4)) :=
  execLoad_next.2 ⟨loadStoreOk_of_addresses hr ha h, q, effectiveAddress_of_addresses hr.1 hn h,
    rangeOk_of_fits h.space h.fits, lt_of_holdsBytes hv, stepOk_of_ready hr, rfl⟩

/-- A store of a register that holds `y` writes the `n` low bytes of `y` and steps. -/
theorem execStore_of_addresses (hr : s.Ready op) (hn : 0 < n) (hn4 : n ≤ 4) (hy : s.Holds a y) (h : s.Addresses b c e q n) :
    execStore op n ⟨a, b, c, 1, e, 0, 0⟩ s = .next (s.wrote e q (leBytes y.toNat n)) := by
  have hcells : s.mem.readCells 1 a 4 = leBytes y.toNat 4 := readCells_of_bytes hy.2
  have hlow : (s.mem.readCells 1 a 4).take n = leBytes y.toNat n := by rw [hcells, leBytes_take _ hn4]
  refine execStore_next.2 ⟨loadStoreOk_of_addresses hr hy.1 h, ?_, q, effectiveAddress_of_addresses hr.1 hn h, ?_,
    stepOk_of_ready hr, by rw [hlow]⟩
  · rw [hcells]; exact fun _ => lt_of_mem_leBytes
  · rw [hlow]; exact rangeOk_leBytes (rangeOk_of_fits h.space h.fits)

/-- `REVEAL_RV32` is `STOREW_RV32` to space 3 (R331). -/
theorem execRevealRv32_next_of_execStore (he : o.e = 3) (h : execStore .storewRv32 4 o s = .next t) :
    execRevealRv32 o s = .next t := by
  obtain ⟨⟨hop, ⟨hd, hf, hg⟩, -, hc, ha, hb⟩, hbytes, q, hq, hrange, hstep, ht⟩ := execStore_next.1 h
  rw [List.take_of_length_le (by simp), he] at hrange ht
  rw [Memory.readCells_length] at hrange
  exact execRevealRv32_next.2 ⟨hop, ⟨hd, he, hf, hg⟩, hc, ha, hb, hbytes, q, hq, hrange, hstep, ht⟩

end access

end Sys2Proof.Machine

namespace Sys2Proof

open Machine

/-- Settles O30: each instruction is the load skeleton on its size, and converts the number of the bytes as its row does. -/
theorem loadsWriteTheRegister : Obligations.LoadsWriteTheRegister := by
  intro row hrow s a b c e x q v hr hspace hc ha hx hq halign hfits hv
  obtain ⟨conv, hn, hexec, hconv⟩ : ∃ conv, 0 < row.2.2.1 ∧ (∀ o, exec (row.1 o) s = execLoad row.2.1 row.2.2.1 conv o s) ∧
      ∀ l, conv l = row.2.2.2 (leNat l) := by
    simp only [List.mem_cons, List.not_mem_nil, or_false] at hrow
    rcases hrow with rfl | rfl | rfl | rfl | rfl
    · exact ⟨signedLoad 1, by decide, fun _ => rfl, fun _ => rfl⟩
    · exact ⟨signedLoad 2, by decide, fun _ => rfl, fun _ => rfl⟩
    · exact ⟨unsignedLoad, by decide, fun _ => rfl, fun _ => rfl⟩
    · exact ⟨unsignedLoad, by decide, fun _ => rfl, fun _ => rfl⟩
    · exact ⟨unsignedLoad, by decide, fun _ => rfl, fun _ => rfl⟩
  have hload := execLoad_of_addresses (conv := conv) hr hn ha ⟨hspace, hc, ⟨x, hx, hq⟩, halign, hfits⟩ hv
  rw [hconv, leNat_of_holdsBytes hv] at hload
  exact ⟨_, (hexec _).trans hload, wrote_bytes_of_ready hr⟩

/-- Settles O31: each store is the store skeleton on its size, and `REVEAL_RV32` does what `STOREW_RV32` does. -/
theorem storesWriteTheCells : Obligations.StoresWriteTheCells := by
  intro row hrow s a b c e x y q hr hspace hc he hy hx hq halign hfits
  obtain ⟨hn, hn4, hexec⟩ : 0 < row.2.2 ∧ row.2.2 ≤ 4 ∧ ∀ t,
      execStore row.2.1 row.2.2 ⟨a, b, c, 1, e, 0, 0⟩ s = .next t → exec (row.1 ⟨a, b, c, 1, e, 0, 0⟩) s = .next t := by
    simp only [List.mem_cons, List.not_mem_nil, or_false] at hrow
    rcases hrow with rfl | rfl | rfl | rfl
    · exact ⟨by decide, by decide, fun _ h => h⟩
    · exact ⟨by decide, by decide, fun _ h => h⟩
    · exact ⟨by decide, by decide, fun _ h => h⟩
    · exact ⟨by decide, by decide, fun _ => execRevealRv32_next_of_execStore (he rfl)⟩
  have hstore := execStore_of_addresses hr hn hn4 hy ⟨hspace, hc, ⟨x, hx, hq⟩, halign, hfits⟩
  exact ⟨_, hexec _ hstore, wrote_bytes_of_ready hr⟩

end Sys2Proof
end

section
/-!
PROOF. The RV32 branches, jumps and upper immediates (`43_rv32_branch_jump.md`): the transfer to a location, the jumps after the link is
written, and the two instructions that step with a register written.
-/

namespace Sys2Proof.Machine

section transfers

variable {s u : State} {a b c f q : Nat} {x : Word}

/-! ### Branches -/

/-- A conditional transfer goes to the location that its condition selects (R281, R282). -/
theorem branch_of_target {taken : Bool} (hw : s.cfg.Wf) (hq : q < 2 ^ 30)
    (htarget : (q : Int) = s.pc + (if taken then centred s.cfg.p c else 4)) :
    (if taken then s.jumpBy c else s.advance) = .ok { s with pc := q } := by
  cases taken with
  | true => exact jumpBy_of_int hw hq htarget
  | false =>
    obtain rfl : q = s.pc + 4 := Int.ofNat_inj.1 htarget
    exact advance_of_lt hw hq

/-! ### The link -/

theorem link_zero : s.link a 0 = .ok s := rfl

theorem link_one_of_regPtr (hw : s.cfg.Wf) (hpc : s.pc < 2 ^ 30) (ha : s.RegPtr a) :
    s.link a 1 = .ok { s with mem := s.mem.writeCells 1 a (leBytes (s.pc + 4) 4) } :=
  link_ok.2 (.inr ⟨Nat.one_ne_zero, regOk_of_regPtr hw ha, by rw [← nextPc_of_lt hw hpc]; rfl⟩)

/-! ### Jumps -/

/-- An instruction that links by its operand `f` and then goes to `q` writes the register `a` for `f = 1` only (R289, R290). -/
theorem jump_of_link {run : Nat → Host.Outcome State Fault Refusal} (hw : s.cfg.Wf) (hpc : s.pc < 2 ^ 30)
    (hrun : ∀ f u, f = 0 ∨ f = 1 → s.link a f = .ok u → run f = .next { u with pc := q }) :
    run 0 = .next { s with pc := q } ∧
      (s.RegPtr a → ∃ t, run 1 = .next t ∧ Wrote s t q 1 a 4 (byteOf (s.pc + 4))) :=
  ⟨hrun 0 s (.inl rfl) link_zero, fun ha =>
    ⟨_, hrun 1 _ (.inr rfl) (link_one_of_regPtr hw hpc ha), wrote_of_row (leBytes_length _ _) fun _ hk => leBytes_getD hk⟩⟩

/-- The link leaves `pc` and the configuration to the jump as they were, so its target is that of the state before (R281, R289). -/
theorem execJalRv32_of_link (hw : s.cfg.Wf) (hop : opEnabled s.cfg .jalRv32 = true) (hc : BranchOffset s.cfg.p c)
    (hq : q < 2 ^ 30) (htarget : (q : Int) = s.pc + centred s.cfg.p c) (hf : f = 0 ∨ f = 1) (hlink : s.link a f = .ok u) :
    execJalRv32 ⟨a, 0, c, 1, 0, f, 0⟩ s = .next { u with pc := q } := by
  have hu : u = { s with mem := u.mem } := (link_row hlink).1
  have hjump : u.jumpBy c = .ok { u with pc := q } := by
    rw [hu]
    exact jumpBy_of_int hw hq htarget
  exact execJalRv32_next.2 ⟨hop, ⟨rfl, rfl, rfl, hf, rfl⟩, hc, u, hlink, hjump⟩

/-- The base register is read before the link is written, which may be to the same register (R290). -/
theorem execJalrRv32_of_link (hw : s.cfg.Wf) (hop : opEnabled s.cfg .jalrRv32 = true) (hc : c < 2 ^ 16)
    (hx : s.Holds b x) (hq : q < 2 ^ 30) (htarget : displaced x c = q) (hf : f = 0 ∨ f = 1) (hlink : s.link a f = .ok u) :
    execJalrRv32 ⟨a, b, c, 1, 0, f, 0⟩ s = .next { u with pc := q } := by
  have hp := Config.Wf.prime_gt hw
  have hpc : fe s.cfg.p (displaced x c) = q := by
    rw [htarget, fe_natCast, Nat.mod_eq_of_lt (by omega)]
  have hrange : 0 ≤ displaced x c ∧ displaced x c < 2 ^ 30 := by omega
  have hjump : u.setPc (fe s.cfg.p (displaced x c)) = .ok { u with pc := q } := by
    rw [hpc]
    exact setPc_ok.2 ⟨hq, rfl⟩
  exact execJalrRv32_next.2 ⟨hop, ⟨rfl, rfl, hf, rfl⟩, hc, x, u, reg32_of_holds hw hx, hlink, hrange, hjump⟩

end transfers

/-! ### Upper immediates -/

section upper

variable {s : State} {a c : Nat}

/-- The shifted immediate keeps its 20 bits: none leaves the word (R291). -/
theorem execLuiRv32_of_ready (hr : s.Ready .luiRv32) (hc : c < 2 ^ 20) (ha : s.RegPtr a) :
    execLuiRv32 ⟨a, 0, c, 1, 0, 1, 0⟩ s = .next (s.wrote 1 a (leBytes (c * 4096) 4)) := by
  have hval : (BitVec.ofNat 32 (c * 2 ^ 12)).toNat = c * 4096 := by
    exact (BitVec.toNat_ofNat _ _).trans (Nat.mod_eq_of_lt (by omega))
  exact execLuiRv32_next.2 ⟨hr.2.1, ⟨rfl, rfl, rfl, rfl, rfl⟩, hc, regOk_of_regPtr hr.1 ha, stepOk_of_ready hr, by rw [hval]⟩

/-- The sum with `pc` wraps to a word (R292). -/
theorem execAuipcRv32_of_ready (hr : s.Ready .auipcRv32) (hc : c < 2 ^ 20) (ha : s.RegPtr a) :
    execAuipcRv32 ⟨a, 0, c, 1, 0, 0, 0⟩ s = .next (s.wrote 1 a (leBytes ((s.pc + c * 4096) % 2 ^ 32) 4)) := by
  have hval : (BitVec.ofNat 32 (s.pc + c * 2 ^ 12)).toNat = (s.pc + c * 4096) % 2 ^ 32 := BitVec.toNat_ofNat _ _
  exact execAuipcRv32_next.2 ⟨hr.2.1, ⟨rfl, rfl, rfl, rfl, rfl⟩, hc, regOk_of_regPtr hr.1 ha, stepOk_of_ready hr, by rw [hval]⟩

end upper

end Sys2Proof.Machine

namespace Sys2Proof

open Machine

/-- Settles O32: each branch is the skeleton of the branches on its condition, which jumps or steps. -/
theorem branchesSetPc : Obligations.BranchesSetPc := by
  intro row hrow s a b c x y q hw hop hc hx hy hq htarget
  rw [exec_branchRow hrow, execBranch_of_holds hop hw hc hx hy, outcome_next]
  exact branch_of_target hw hq htarget

/-- Settles O34: both jumps go to their target from the state in which the link is written, or not written. -/
theorem jumpsLinkAndSetPc : Obligations.JumpsLinkAndSetPc := by
  intro s a b c x q hw hpc hq
  constructor
  · intro hop hc htarget
    exact jump_of_link (run := fun f => exec (.jalRv32 ⟨a, 0, c, 1, 0, f, 0⟩) s) hw hpc fun _ _ =>
      execJalRv32_of_link hw hop hc hq htarget
  · intro hop hc hx htarget
    exact jump_of_link (run := fun f => exec (.jalrRv32 ⟨a, b, c, 1, 0, f, 0⟩) s) hw hpc fun _ _ =>
      execJalrRv32_of_link hw hop hc hx hq htarget

/-- Settles O35: both write a number below `2^32` and step. -/
theorem upperImmediatesWriteTheRegister : Obligations.UpperImmediatesWriteTheRegister := by
  intro s a c hc ha
  constructor
  · intro hr
    exact ⟨_, execLuiRv32_of_ready hr hc ha, wrote_bytes_of_ready hr⟩
  · intro hr
    exact ⟨_, execAuipcRv32_of_ready hr hc ha, wrote_bytes_of_ready hr⟩

end Sys2Proof
end

section
/-!
PROOF. The RV32 multiplication extension (`44_rv32_muldiv.md`): the signed division against its definition, each operation read as a
number, and the skeleton run on operands that hold values.
-/

namespace Sys2Proof.Machine

/-! ### Signed division -/

section division

variable (sign : DivRemSign) (n : Int) {m : Int}

/-- The floored remainder lies between 0 and the divisor, which it does not reach. -/
theorem fmod_between (hm : m ≠ 0) : 0 ≤ n.fmod m ∧ n.fmod m < m ∨ m < n.fmod m ∧ n.fmod m ≤ 0 := by
  rcases hm.lt_or_gt with hneg | hpos
  · exact .inr ((Int.fdiv_fmod_unique' hneg).1 ⟨rfl, rfl⟩).2
  · exact .inl ⟨Int.fmod_nonneg_of_pos n hpos, Int.fmod_lt_of_pos n hpos⟩

theorem signedDivRem_mul_add (m : Int) : n = (signedDivRem sign n m).1 * m + (signedDivRem sign n m).2 := by
  cases sign with
  | dividend => exact (Int.tdiv_mul_add_tmod n m).symm
  | divisor => exact (Int.fdiv_mul_add_fmod n m).symm

theorem abs_signedDivRem_lt (hm : m ≠ 0) : |(signedDivRem sign n m).2| < |m| := by
  rw [Int.abs_eq_natAbs, Int.abs_eq_natAbs, Nat.cast_lt]
  cases sign with
  | dividend =>
    rw [signedDivRem, Int.natAbs_tmod]
    exact Nat.mod_lt _ (Int.natAbs_pos.2 hm)
  | divisor =>
    have hr := fmod_between n hm
    rw [signedDivRem]
    omega

/-- A remainder other than 0 has the sign that the configuration names (R320, log 17). -/
theorem signedDivRem_sign (hm : m ≠ 0) : (signedDivRem sign n m).2 = 0 ∨
    match sign with
    | .dividend => (signedDivRem sign n m).2.sign = n.sign
    | .divisor => (signedDivRem sign n m).2.sign = m.sign := by
  by_cases hr : (signedDivRem sign n m).2 = 0
  · exact .inl hr
  refine .inr ?_
  cases sign with
  | dividend => exact (Int.sign_tmod n m).trans (if_neg fun hdvd => hr (Int.tmod_eq_zero_of_dvd hdvd))
  | divisor =>
    rcases fmod_between n hm with ⟨hnonneg, hlt⟩ | ⟨hlt, hnonpos⟩
    · have hpos : 0 < n.fmod m := lt_of_le_of_ne hnonneg (Ne.symm hr)
      exact (Int.sign_eq_one_of_pos hpos).trans (Int.sign_eq_one_of_pos (hpos.trans hlt)).symm
    · have hneg : n.fmod m < 0 := lt_of_le_of_ne hnonpos hr
      exact (Int.sign_eq_neg_one_of_neg hneg).trans (Int.sign_eq_neg_one_of_neg (hlt.trans hneg)).symm

end division

/-! ### The operations as numbers -/

section values

variable (sign : DivRemSign) (x y : Word)

theorem mulLow_toNat : (mulLow x y).toNat = x.toNat * y.toNat % 2 ^ 32 := BitVec.toNat_mul x y

/-- The high word of a 64-bit pattern is the floor division of the number by `2^32`, modulo `2^32` (R312 to R314). -/
theorem extractHigh_ofInt_toNat (z : Int) : ((BitVec.ofInt 64 z).extractLsb' 32 32).toNat = (z / 2 ^ 32 % 2 ^ 32).toNat := by
  rw [BitVec.extractLsb'_toNat, BitVec.toNat_ofInt, Nat.shiftRight_eq_div_pow]
  omega

theorem signExtend64_eq_ofInt : x.signExtend 64 = BitVec.ofInt 64 x.toInt := rfl

theorem setWidth64_eq_ofInt : x.setWidth 64 = BitVec.ofInt 64 x.toNat := by
  rw [BitVec.ofInt_natCast, BitVec.ofNat_toNat]

theorem mulHighSigned_toNat : (mulHighSigned x y).toNat = (x.toInt * y.toInt / 2 ^ 32 % 2 ^ 32).toNat := by
  rw [mulHighSigned, signExtend64_eq_ofInt, signExtend64_eq_ofInt, ← BitVec.ofInt_mul, extractHigh_ofInt_toNat]

theorem mulHighSignedUnsigned_toNat :
    (mulHighSignedUnsigned x y).toNat = (x.toInt * y.toNat / 2 ^ 32 % 2 ^ 32).toNat := by
  rw [mulHighSignedUnsigned, signExtend64_eq_ofInt, setWidth64_eq_ofInt, ← BitVec.ofInt_mul, extractHigh_ofInt_toNat]

theorem mulHighUnsigned_toNat : (mulHighUnsigned x y).toNat = x.toNat * y.toNat / 2 ^ 32 := by
  have hlt : x.toNat * y.toNat < 2 ^ 32 * 2 ^ 32 := Nat.mul_lt_mul'' x.isLt y.isLt
  rw [mulHighUnsigned, setWidth64_eq_ofInt, setWidth64_eq_ofInt, ← BitVec.ofInt_mul, extractHigh_ofInt_toNat, ← Nat.cast_mul]
  omega

theorem word_eq_zero_iff_toInt : y = 0 ↔ y.toInt = 0 := BitVec.toInt_inj.symm

theorem word_eq_zero_iff_toNat : y = 0 ↔ y.toNat = 0 := BitVec.toNat_inj.symm

theorem divSigned_toNat : (divSigned sign x y).toNat =
    if y.toInt = 0 then 2 ^ 32 - 1
    else if x.toInt = -2 ^ 31 ∧ y.toInt = -1 then 2 ^ 31 else ((signedDivRem sign x.toInt y.toInt).1 % 2 ^ 32).toNat := by
  simp only [divSigned, word_eq_zero_iff_toInt, apply_ite BitVec.toNat, BitVec.toNat_ofInt]
  rfl

theorem divUnsigned_toNat : (divUnsigned x y).toNat = if y.toNat = 0 then 2 ^ 32 - 1 else x.toNat / y.toNat := by
  simp only [divUnsigned, word_eq_zero_iff_toNat, apply_ite BitVec.toNat, BitVec.toNat_allOnes, BitVec.toNat_udiv]

theorem remSigned_toNat : (remSigned sign x y).toNat =
    if y.toInt = 0 then x.toNat
    else if x.toInt = -2 ^ 31 ∧ y.toInt = -1 then 0 else ((signedDivRem sign x.toInt y.toInt).2 % 2 ^ 32).toNat := by
  simp only [remSigned, word_eq_zero_iff_toInt, apply_ite BitVec.toNat, BitVec.toNat_ofInt]
  rfl

theorem remUnsigned_toNat : (remUnsigned x y).toNat = if y.toNat = 0 then x.toNat else x.toNat % y.toNat := by
  simp only [remUnsigned, word_eq_zero_iff_toNat, apply_ite BitVec.toNat, BitVec.toNat_umod]

end values

/-! ### The skeleton -/

section skeleton

variable {s : State} {op : Op} {f : Word → Word → Word} {a b c : Nat} {x y : Word}

/-- A multiplication or division whose operands hold values writes the result and steps, whatever the values are (R310). -/
theorem execMulDiv_of_holds (hr : s.Ready op) (ha : s.RegPtr a) (hx : s.Holds b x) (hy : s.Holds c y) :
    execMulDiv op f ⟨a, b, c, 1, 0, 0, 0⟩ s = .next (s.wrote 1 a (leBytes (f x y).toNat 4)) :=
  execMulDiv_next.2 ⟨hr.2.1, ⟨rfl, rfl, rfl, rfl⟩, x, y, reg32_of_holds hr.1 hx, reg32_of_holds hr.1 hy,
    regOk_of_regPtr hr.1 ha, stepOk_of_ready hr, rfl⟩

end skeleton

end Sys2Proof.Machine

namespace Sys2Proof

open Machine

/-- Settles O29: both divisions have the three properties, for each choice of the remainder's sign. -/
theorem signedDivisionMeetsItsDefinition : Obligations.SignedDivisionMeetsItsDefinition :=
  fun sign n m hm => ⟨signedDivRem_mul_add sign n m, abs_signedDivRem_lt sign n hm, signedDivRem_sign sign n hm⟩

/-- Settles O28: each instruction is the skeleton of the extension on its operation, whose result is the number of its row. -/
theorem mulDivWritesItsResult : Obligations.MulDivWritesItsResult := by
  intro row hrow s a b c x y hr ha hx hy
  obtain ⟨f, hexec, hval⟩ :
      ∃ f, (∀ o, exec (row.1 o) s = execMulDiv row.2.1 f o s) ∧ ∀ x y, (f x y).toNat = row.2.2 s.cfg.divRemSign x y := by
    simp only [List.mem_cons, List.not_mem_nil, or_false] at hrow
    rcases hrow with rfl | rfl | rfl | rfl | rfl | rfl | rfl | rfl
    · exact ⟨mulLow, fun _ => rfl, mulLow_toNat⟩
    · exact ⟨mulHighSigned, fun _ => rfl, mulHighSigned_toNat⟩
    · exact ⟨mulHighSignedUnsigned, fun _ => rfl, mulHighSignedUnsigned_toNat⟩
    · exact ⟨mulHighUnsigned, fun _ => rfl, mulHighUnsigned_toNat⟩
    · exact ⟨divSigned s.cfg.divRemSign, fun _ => rfl, divSigned_toNat _⟩
    · exact ⟨divUnsigned, fun _ => rfl, divUnsigned_toNat⟩
    · exact ⟨remSigned s.cfg.divRemSign, fun _ => rfl, remSigned_toNat _⟩
    · exact ⟨remUnsigned, fun _ => rfl, remUnsigned_toNat⟩
  refine ⟨s.wrote 1 a (leBytes (f x y).toNat 4), (hexec _).trans (execMulDiv_of_holds hr ha hx hy), ?_⟩
  rw [← hval]
  exact wrote_bytes_of_ready hr

end Sys2Proof
end

section
/-!
PROOF. `HINTSTOREW_RV32` and `KECCAK256_RV32` (`45_rv32_io_hash.md`), and the words that become them: the four hint bytes and the digest
as the rows that the two instructions write.
-/

namespace Sys2Proof.Machine

/-! ### `HINTSTOREW_RV32` -/

section hintstorew

variable {s : State} {b c q h0 h1 h2 h3 : Nat} {rest : List Nat}

/-- With four bytes in front of the stream, `HINTSTOREW_RV32` writes them in the state without them (R330). -/
theorem execHintstorewRv32_of_hint (hr : s.Ready .hintstorewRv32) (h : s.Addresses b c 2 q 4)
    (hs : s.hintStream = [h0, h1, h2, h3] ++ rest) (h8 : ∀ x ∈ [h0, h1, h2, h3], x < 256) :
    execHintstorewRv32 ⟨0, b, c, 1, 2, 0, 0⟩ s =
      .next (({ s with hintStream := rest } : State).wrote 2 q [h0, h1, h2, h3]) := by
  have htake : s.hintStream.take 4 = [h0, h1, h2, h3] := by rw [hs]; rfl
  have hdrop : s.hintStream.drop 4 = rest := by rw [hs]; rfl
  have hlength : 4 ≤ s.hintStream.length := by simp [hs]
  have hblock : s.BlockOk 2 q 4 := ⟨rangeOk_of_fits h.space h.fits, by decide, h.aligned⟩
  refine execHintstorewRv32_next.2 ⟨hr.2.1, ⟨rfl, rfl, rfl, rfl, rfl⟩, h.imm, q,
    effectiveAddress_of_addresses hr.1 (by decide) h, hlength, ?_, hblock, stepOk_of_ready hr, ?_⟩
  · rwa [htake]
  · rw [htake, hdrop]

end hintstorew

/-! ### `KECCAK256_RV32` -/

section keccak

variable {s : State} {a b c e src len dst k : Nat} {m : List Nat}

/-- A row of cells that hold the elements of a list reads as that list. -/
theorem readCells_of_getElem {mem : Memory} {sp q : Nat} (h : ∀ k (hk : k < m.length), mem.read ⟨sp, q + k⟩ = m[k]) :
    mem.readCells sp q m.length = m :=
  List.ext_getElem (by simp) fun i _ hi => (Memory.readCells_getElem ..).trans (h i hi)

theorem keccakDigest_getD (hk : k < 32) : (keccakDigest m).getD k 0 = (Config.keccak256 m ⟨k, hk⟩).toNat := by
  rw [List.getD_eq_getElem _ _ (by simpa using hk)]
  simp [keccakDigest]

/-- `KECCAK256_RV32` on a message of bytes writes its digest and steps (R332, R333). -/
theorem execKeccak256Rv32_of_message (hr : s.Ready .keccak256Rv32) (he : ValidSpace s.cfg e) (hdst : s.PointsTo a dst 32 4)
    (hsrc : s.PointsTo b src m.length 4) (hc : s.Holds c (BitVec.ofNat 32 m.length)) (hlen : m.length < 2 ^ 31)
    (hm : s.mem.readCells e src m.length = m) (h8 : ∀ x ∈ m, x < 256) :
    execKeccak256Rv32 ⟨a, b, c, 1, e, 0, 0⟩ s = .next (s.wrote e dst (keccakDigest m)) := by
  obtain ⟨hdst4, hdstFits, ha, hdstLt⟩ := hdst
  obtain ⟨hsrc4, hsrcFits, hb, hsrcLt⟩ := hsrc
  refine execKeccak256Rv32_next.2 ⟨hr.2.1, ⟨rfl, rfl, rfl⟩, he, _, _, _, dst, src, m.length, reg32_of_holds hr.1 ha,
    reg32_of_holds hr.1 hb, reg32_of_holds hr.1 hc, toInt_ofNat_of_lt hdstLt, toInt_ofNat_of_lt hsrcLt, toInt_ofNat_of_lt hlen,
    hsrcFits, hdstFits, ⟨hsrc4, hdst4⟩, ?_, stepOk_of_ready hr, ?_⟩
  · rwa [hm]
  · rw [hm]

end keccak

end Sys2Proof.Machine

namespace Sys2Proof

open Machine

/-- Settles O36: the word is the instruction on the operands it is transpiled to, and the row is written in the state without the four
hints. -/
theorem hintstorewStoresTheHint : Obligations.HintstorewStoresTheHint := by
  intro s i b c x q h0 h1 h2 h3 rest hr hi hc hx hq halign hfits hs hb0 hb1 hb2 hb3
  have hexec : exec i s = execHintstorewRv32 ⟨0, b, c, 1, 2, 0, 0⟩ s := by
    rcases hi with rfl | ⟨rd, imm, rfl, rfl, rfl⟩ <;> rfl
  have haddr : s.Addresses b c 2 q 4 := ⟨Config.Wf.validSpace hr.1 (by decide) (by decide), hc, ⟨x, hx, hq⟩, halign, hfits⟩
  have hbytes : ∀ v ∈ [h0, h1, h2, h3], v < 256 := by simp [hb0, hb1, hb2, hb3]
  exact ⟨_, hexec.trans (execHintstorewRv32_of_hint hr haddr hs hbytes),
    wrote_of_ready (s := { s with hintStream := rest }) hr rfl fun _ _ => rfl⟩

/-- Settles O37: the cells at the source pointer read as the message, whose digest is the row that is written. -/
theorem keccakWritesTheDigest : Obligations.KeccakWritesTheDigest := by
  rintro s i a b c e src len dst m hr hi he hdst hsrc hc hlen rfl hcells
  have hexec : exec i s = execKeccak256Rv32 ⟨a, b, c, 1, e, 0, 0⟩ s := by
    rcases hi with rfl | ⟨rd, rs1, rs2, rfl, rfl, rfl, rfl, rfl⟩ <;> rfl
  have hm : s.mem.readCells e src m.length = m := readCells_of_getElem fun k hk => (hcells k hk).1
  have hbytes : ∀ v ∈ m, v < 256 := List.forall_mem_iff_forall_getElem.2 fun k hk => (hcells k hk).2
  refine ⟨_, hexec.trans (execKeccak256Rv32_of_message hr he hdst hsrc hc hlen hm hbytes), wrote_of_ready hr (by simp) ?_⟩
  intro k hk
  rw [keccakDigest_getD hk, dif_pos hk]

end Sys2Proof
end

section
/-!
PROOF. The eleven 256-bit instructions (`46_rv32_int256.md`) and the words that become them: each operation read as a number, and the
skeleton run on blocks that hold values.
-/

namespace Sys2Proof.Machine

/-! ### The operations as numbers -/

section values

variable (x y : Wide)

theorem wideAdd_toNat : (wideAdd x y).toNat = (x.toNat + y.toNat) % 2 ^ 256 := BitVec.toNat_add x y

theorem wideSub_toNat : (wideSub x y).toNat = (x.toNat + (2 ^ 256 - y.toNat)) % 2 ^ 256 := BitVec.toNat_sub' x y

theorem wideXor_toNat : (wideXor x y).toNat = x.toNat ^^^ y.toNat := BitVec.toNat_xor x y

theorem wideOr_toNat : (wideOr x y).toNat = x.toNat ||| y.toNat := BitVec.toNat_or x y

theorem wideAnd_toNat : (wideAnd x y).toNat = x.toNat &&& y.toNat := BitVec.toNat_and x y

theorem wideMul_toNat : (wideMul x y).toNat = x.toNat * y.toNat % 2 ^ 256 := BitVec.toNat_mul x y

theorem boolWide_decide_toNat (c : Prop) [Decidable c] : (boolWord 256 (decide c)).toNat = if c then 1 else 0 := by
  by_cases h : c <;> simp [boolWord, h]

theorem wideSlt_toNat : (wideSlt x y).toNat = if x.toInt < y.toInt then 1 else 0 := boolWide_decide_toNat _

theorem wideSltu_toNat : (wideSltu x y).toNat = if x.toNat < y.toNat then 1 else 0 := boolWide_decide_toNat _

end values

/-! ### The shifts -/

section shifts

variable {cfg : Config} (x : Wide) {y : Wide}

/-- Below 256, and wherever the configuration keeps the default, the amount of a shift is `y mod 256` (R354; log 16). -/
theorem shamt256_eq_mod (h : y.toNat < 256 ∨ cfg.shamt256 = []) : shamt256 cfg y = y.toNat % 256 := by
  unfold shamt256
  split_ifs with hlt
  · exact (Nat.mod_eq_of_lt hlt).symm
  · rw [h.resolve_left hlt]
    rfl

theorem wideSll_toNat (h : y.toNat < 256 ∨ cfg.shamt256 = []) :
    (wideSll cfg x y).toNat = x.toNat * 2 ^ (y.toNat % 256) % 2 ^ 256 := by
  rw [wideSll, shamt256_eq_mod h, BitVec.toNat_shiftLeft, Nat.shiftLeft_eq]

theorem wideSrl_toNat (h : y.toNat < 256 ∨ cfg.shamt256 = []) :
    (wideSrl cfg x y).toNat = x.toNat / 2 ^ (y.toNat % 256) := by
  rw [wideSrl, shamt256_eq_mod h, BitVec.toNat_ushiftRight, Nat.shiftRight_eq_div_pow]

/-- The arithmetic shift is the floor division of the signed value (R362). -/
theorem wideSra_toNat (h : y.toNat < 256 ∨ cfg.shamt256 = []) :
    (wideSra cfg x y).toNat = (x.toInt / 2 ^ (y.toNat % 256) % 2 ^ 256).toNat := by
  rw [wideSra, shamt256_eq_mod h, BitVec.sshiftRight, BitVec.toNat_ofInt, Int.shiftRight_eq_div_pow]
  norm_cast

end shifts

/-! ### The skeleton -/

section skeleton

variable {s : State} {op : Op} {f : Wide → Wide → Wide} {a b c qa qb qc : Nat} {x y : Wide}

/-- A 256-bit instruction whose registers point to blocks, the two sources holding values, writes the result and steps (R350 to
R353). -/
theorem execInt256_of_holds (hr : s.Ready op) (ha : s.PointsTo a qa 32 32) (hb : s.PointsTo b qb 32 32) (hc : s.PointsTo c qc 32 32)
    (hx : s.HoldsBytes 2 qb 32 x.toNat) (hy : s.HoldsBytes 2 qc 32 y.toNat) :
    execInt256 op f ⟨a, b, c, 1, 2, 0, 0⟩ s = .next (s.wrote 2 qa (leBytes (f x y).toNat 32)) := by
  have hfits : s.Fits qa 32 := ha.2.1
  exact execInt256_next.2 ⟨hr.2.1, ⟨rfl, rfl, rfl, rfl⟩, x, y, qa, load256_of_holds hr.1 hb hx, load256_of_holds hr.1 hc hy,
    regPointer_of_pointsTo hr.1 ha, rangeOk_of_fits (Config.Wf.validSpace hr.1 (by decide) (by decide)) hfits, stepOk_of_ready hr,
    rfl⟩

end skeleton

end Sys2Proof.Machine

namespace Sys2Proof

open Machine

/-- Settles O38: each instruction, and its word on the operands it is transpiled to, is the 256-bit skeleton on its operation, whose
result is the number of its row; for a shift the premise on the amount decides `shamt256`. -/
theorem int256WritesItsResult : Obligations.Int256WritesItsResult := by
  intro row hrow s i a b c x y qa qb qc hr hi ha hb hc hx hy hamount
  obtain ⟨f, hinstr, hword, hval⟩ : ∃ f, (∀ o, exec (row.1 o) s = execInt256 row.2.2.1 f o s) ∧
      (∀ rd rs1 rs2, exec (row.2.1 rd rs1 rs2) s = exec (row.1 (regForm rd rs1 rs2 2)) s) ∧ (f x y).toNat = row.2.2.2 x y := by
    simp only [List.mem_cons, List.not_mem_nil, or_false] at hrow
    rcases hrow with rfl | rfl | rfl | rfl | rfl | rfl | rfl | rfl | rfl | rfl | rfl
    · exact ⟨wideAdd, fun _ => rfl, fun _ _ _ => rfl, wideAdd_toNat x y⟩
    · exact ⟨wideSub, fun _ => rfl, fun _ _ _ => rfl, wideSub_toNat x y⟩
    · exact ⟨wideXor, fun _ => rfl, fun _ _ _ => rfl, wideXor_toNat x y⟩
    · exact ⟨wideOr, fun _ => rfl, fun _ _ _ => rfl, wideOr_toNat x y⟩
    · exact ⟨wideAnd, fun _ => rfl, fun _ _ _ => rfl, wideAnd_toNat x y⟩
    · exact ⟨wideSll s.cfg, fun _ => rfl, fun _ _ _ => rfl, wideSll_toNat x (hamount (by decide))⟩
    · exact ⟨wideSrl s.cfg, fun _ => rfl, fun _ _ _ => rfl, wideSrl_toNat x (hamount (by decide))⟩
    · exact ⟨wideSra s.cfg, fun _ => rfl, fun _ _ _ => rfl, wideSra_toNat x (hamount (by decide))⟩
    · exact ⟨wideSlt, fun _ => rfl, fun _ _ _ => rfl, wideSlt_toNat x y⟩
    · exact ⟨wideSltu, fun _ => rfl, fun _ _ _ => rfl, wideSltu_toNat x y⟩
    · exact ⟨wideMul, fun _ => rfl, fun _ _ _ => rfl, wideMul_toNat x y⟩
  have hexec : exec i s = execInt256 row.2.2.1 f ⟨a, b, c, 1, 2, 0, 0⟩ s := by
    rcases hi with rfl | ⟨rd, rs1, rs2, rfl, rfl, rfl, rfl⟩
    · exact hinstr _
    · exact (hword rd rs1 rs2).trans (hinstr _)
  refine ⟨s.wrote 2 qa (leBytes (f x y).toNat 32), hexec.trans (execInt256_of_holds hr ha hb hc hx hy), ?_⟩
  rw [← hval]
  exact wrote_bytes_of_ready hr

end Sys2Proof
end

section
/-!
PROOF. The modular instructions (`47_rv32_modular_ec.md` sections 1 to 3) and the words that become them: each operation as an integer
of the residue its rule states, and the two skeletons run on rows that hold numbers.
-/

namespace Sys2Proof.Machine

/-! ### Moduli and words with an index -/

section moduli

variable {s : State} {i j : Instr} {idx : BitVec 4} {n : Nat} {m : Modulus}

/-- A configured modulus is positive, and its residues fit in the limbs (R390). -/
theorem modulus_bounds (hw : s.cfg.Wf) (h : s.cfg.moduli[n]? = some m) : 0 < m.n ∧ m.n < 256 ^ m.numLimbs := by
  obtain ⟨-, -, -, -, -, -, -, -, -, -, -, hmoduli, -⟩ := hw
  obtain ⟨hpos, hlt, -⟩ := hmoduli m (List.mem_of_getElem? h)
  exact ⟨hpos, hlt⟩

/-- The word of a modular instruction runs as its instruction where the modulus is configured (R551). -/
theorem exec_eq_of_withModulus (ht : transpile s.cfg i = withModulus s.cfg idx j) (h : s.cfg.moduli[idx.toNat]? = some m) :
    exec i s = exec j s := by
  have hidx : idx.toNat < s.cfg.moduli.length := (List.getElem?_eq_some_iff.1 h).1
  rw [exec_eq_runTranspiled i, ht, withModulus, if_pos hidx]
  rfl

end moduli

/-! ### The quotient modulo a number -/

section quotient

variable {n x y u : Nat}

/-- Where the divisor is coprime to the modulus, the quotient is the product with its inverse (R397). -/
theorem modDiv_of_coprime (h : Nat.gcd y n = 1) : modDiv n x y = .ok ((x : Int) * modInv y n) := by
  rw [modDiv, require_of h, ok_bind]
  rfl

/-- A divisor that shares a factor with the modulus faults (R397). -/
theorem modDiv_of_not_coprime (h : Nat.gcd y n ≠ 1) : modDiv n x y = .error .divmodNotCoprime := by
  rw [modDiv, require_not h, error_bind]

/-- A number of the quotient's residue gives back the dividend. -/
theorem mul_congr_of_quotient (hn : 0 < n) (hy : Nat.gcd y n = 1) (hu : (u : Int) ≡ x * modInv y n [ZMOD n]) :
    (u : Int) * y ≡ x [ZMOD n] :=
  calc (u : Int) * y ≡ x * modInv y n * y [ZMOD n] := hu.mul_right _
    _ = x * (modInv y n * y) := mul_assoc ..
    _ ≡ x * 1 [ZMOD n] := (modInv_spec hn hy).2.mul_left _
    _ = x := mul_one _

end quotient

/-! ### The skeletons -/

section skeletons

variable {s : State} {op : Op} {f : Nat → Nat → Nat → Except Fault Int} {n a b c r x y q : Nat} {m : Modulus}

theorem leNat_leBytes_of_lt {v k : Nat} (h : v < 256 ^ k) : leNat (leBytes v k) = v := by
  rw [leNat_leBytes, Nat.mod_eq_of_lt h]

/-- `LoadBig` through the register at `r` answers `x` (R391). -/
def State.LoadsBig (s : State) (m : Modulus) (r x : Nat) : Prop :=
  ∃ l, s.loadBytes r m.numLimbs m.blockSize = .ok l ∧ leNat l = x

theorem loadsBig_of_holds (hw : s.cfg.Wf) (hr : s.PointsTo r q m.numLimbs m.blockSize) (hx : s.HoldsBytes 2 q m.numLimbs x) :
    s.LoadsBig m r x := ⟨_, loadBytes_of_holds hw hr hx, leNat_leBytes_of_lt hx.1⟩

/-- The four arithmetic instructions write a representative of the operation's value (R391, R392). -/
theorem execModular_of_defined {v : Int} (hr : s.Ready op) (hm : s.cfg.moduli[n]? = some m)
    (ha : s.PointsTo a q m.numLimbs m.blockSize) (hx : s.LoadsBig m b x) (hy : s.LoadsBig m c y) (hf : f m.n x y = .ok v) :
    execModular op f n ⟨a, b, c, 1, 2, 0, 0⟩ s =
      .next (({ s with draws := s.draws + 1 } : State).wrote 2 q
        (leBytes (representative m.n m.numLimbs s.draws v) m.numLimbs)) := by
  obtain ⟨xs, hxs, rfl⟩ := hx
  obtain ⟨ys, hys, rfl⟩ := hy
  exact execModular_next.2 ⟨hr.2.1, ⟨rfl, rfl, rfl, rfl⟩, m, xs, ys, v, q, hm, hxs, hys, hf, regPointer_of_pointsTo hr.1 ha,
    rangeOk_of_fits (Config.Wf.validSpace hr.1 (by decide) (by decide)) ha.2.1, stepOk_of_ready hr, rfl⟩

/-- An operation that is not defined on the two numbers faults (R393). -/
theorem execModular_of_undefined {ra : Word} {e : Fault} (hop : opEnabled s.cfg op = true) (hm : s.cfg.moduli[n]? = some m)
    (ha : s.reg32 a = .ok ra) (hx : s.LoadsBig m b x) (hy : s.LoadsBig m c y) (hf : f m.n x y = .error e) :
    execModular op f n ⟨a, b, c, 1, 2, 0, 0⟩ s = .fault e := by
  obtain ⟨xs, hxs, rfl⟩ := hx
  obtain ⟨ys, hys, rfl⟩ := hy
  have hop' : s.requireOp op = .ok () := requireOp_ok.2 hop
  simp only [execModular, outcome_fault, hop', require_of, modulus_ok.2 hm, hxs, hys, ha, hf, ok_bind, error_bind, and_self]

/-- On reduced inputs `ISEQMOD_RV32` writes whether they are equal (R398). -/
theorem execIseqmodRv32_of_reduced (hr : s.Ready (.iseqmodRv32 n)) (hm : s.cfg.moduli[n]? = some m) (ha : s.RegPtr a)
    (hx : s.LoadsBig m b x) (hy : s.LoadsBig m c y) (hxn : x < m.n) (hyn : y < m.n) :
    execIseqmodRv32 n ⟨a, b, c, 1, 2, 0, 0⟩ s = .next (s.wrote 1 a (leBytes (if x = y then 1 else 0) 4)) := by
  have hvalue : (boolWord 32 (decide (x = y))).toNat = if x = y then 1 else 0 := by
    by_cases h : x = y <;> simp [boolWord, h]
  rw [← hvalue]
  obtain ⟨xs, hxs, rfl⟩ := hx
  obtain ⟨ys, hys, rfl⟩ := hy
  exact execIseqmodRv32_next.2 ⟨hr.2.1, ⟨rfl, rfl, rfl, rfl⟩, m, xs, ys, hm, hxs, hys, ⟨hxn, hyn⟩, regOk_of_regPtr hr.1 ha,
    stepOk_of_ready hr, rfl⟩

/-- An input that is not below the modulus faults (R398). -/
theorem execIseqmodRv32_of_not_reduced (hop : opEnabled s.cfg (.iseqmodRv32 n) = true) (hm : s.cfg.moduli[n]? = some m)
    (hx : s.LoadsBig m b x) (hy : s.LoadsBig m c y) (hn : ¬ (x < m.n ∧ y < m.n)) :
    execIseqmodRv32 n ⟨a, b, c, 1, 2, 0, 0⟩ s = .fault .notReduced := by
  obtain ⟨xs, hxs, rfl⟩ := hx
  obtain ⟨ys, hys, rfl⟩ := hy
  have hop' : s.requireOp (.iseqmodRv32 n) = .ok () := requireOp_ok.2 hop
  simp only [execIseqmodRv32, outcome_fault, hop', require_of, modulus_ok.2 hm, hxs, hys, require_not hn, ok_bind, error_bind,
    and_self]

end skeletons

end Sys2Proof.Machine

namespace Sys2Proof

open Machine

/-- Settles O40: each instruction, and its word on the operands it is transpiled to, is the modular skeleton on its operation, and every
representative of the operation's value has the residue of its row. -/
theorem modularWritesARepresentative : Obligations.ModularWritesARepresentative := by
  intro row hrow s i n m a b c x y qa qb qc hr hi hm ha hb hc hx hy hdefined
  obtain ⟨hpos, hlt⟩ := modulus_bounds hr.1 hm
  have hloadX := loadsBig_of_holds hr.1 hb hx
  have hloadY := loadsBig_of_holds hr.1 hc hy
  obtain ⟨f, v, hinstr, hword, hf, hresidue⟩ : ∃ f v, (∀ o, exec (row.1 n o) s = execModular (row.2.2.1 n) f n o s) ∧
      (∀ idx rd rs1 rs2, transpile s.cfg (row.2.1 idx rd rs1 rs2) =
        withModulus s.cfg idx (row.1 idx.toNat (regForm rd rs1 rs2 2))) ∧
      f m.n x y = .ok v ∧ ∀ u : Nat, (u : Int) ≡ v [ZMOD m.n] → row.2.2.2.2 m.n x y u := by
    simp only [List.mem_cons, List.not_mem_nil, or_false] at hrow
    rcases hrow with rfl | rfl | rfl | rfl
    · exact ⟨modAdd, _, fun _ => rfl, fun _ _ _ _ => rfl, rfl, fun _ => id⟩
    · exact ⟨modSub, _, fun _ => rfl, fun _ _ _ _ => rfl, rfl, fun _ => id⟩
    · exact ⟨modMul, _, fun _ => rfl, fun _ _ _ _ => rfl, rfl, fun _ => id⟩
    · exact ⟨modDiv, _, fun _ => rfl, fun _ _ _ _ => rfl,
        modDiv_of_coprime hdefined, fun _ => mul_congr_of_quotient hpos hdefined⟩
  have hexec : exec i s = execModular (row.2.2.1 n) f n ⟨a, b, c, 1, 2, 0, 0⟩ s := by
    rcases hi with rfl | ⟨idx, rd, rs1, rs2, rfl, rfl, rfl, rfl, rfl⟩
    · exact hinstr _
    · exact (exec_eq_of_withModulus (hword idx rd rs1 rs2) hm).trans (hinstr _)
  exact ⟨_, representative m.n m.numLimbs s.draws v, hexec.trans (execModular_of_defined hr hm ha hloadX hloadY hf),
    representative_lt hpos hlt.le _ _, hresidue _ (representative_congr hpos _ _ _),
    wrote_bytes_of_ready (s := { s with draws := s.draws + 1 }) hr⟩

/-- Settles O41: the word is the instruction on the operands it is transpiled to, which compares the inputs or faults. -/
theorem iseqmodComparesReducedInputs : Obligations.IseqmodComparesReducedInputs := by
  intro s i n m a b c x y qb qc hr hi hm ha hb hc hx hy
  have hexec : exec i s = exec (.iseqmodRv32 n ⟨a, b, c, 1, 2, 0, 0⟩) s := by
    rcases hi with rfl | ⟨idx, rd, rs1, rs2, rfl, hrd, rfl, rfl, rfl, rfl⟩
    · rfl
    · exact exec_eq_of_withModulus (if_neg hrd) hm
  have hloadX := loadsBig_of_holds hr.1 hb hx
  have hloadY := loadsBig_of_holds hr.1 hc hy
  refine ⟨fun hxn hyn => ?_, fun hn => ?_⟩
  · exact ⟨_, hexec.trans (execIseqmodRv32_of_reduced hr hm ha hloadX hloadY hxn hyn), wrote_bytes_of_ready hr⟩
  · exact hexec.trans (execIseqmodRv32_of_not_reduced hr.2.1 hm hloadX hloadY (by omega))

end Sys2Proof
end

section
/-!
PROOF. The curve instructions (`47_rv32_modular_ec.md` section 4), the words that become them, and the behaviours that the source calls
undefined. A line that meets the curve in `(x1, y1)` and at `x2` meets it again at `lam^2 - x1 - x2`: the chord and the tangent differ
in why they meet the curve at `x2`.
-/

namespace Sys2Proof.Machine

/-! ### The curve over its coordinate field -/

section field

variable {R : Type} [CommRing R] {x1 y1 x2 y2 x3 y3 b lam : R}

/-- On the line `lam * (x - x1) + y1` the two sides of the curve's equation differ by as much at `x2` as at `x1`, with `x2 - x1` divided
out: where `x2` is `x1`, the line is a tangent. -/
def SecantEq (lam x1 y1 x2 : R) : Prop := lam ^ 2 * (x2 - x1) + 2 * lam * y1 = x1 ^ 2 + x1 * x2 + x2 ^ 2

/-- The line through two points of the curve meets it in both. -/
theorem secantEq_of_chord [IsDomain R] (h1 : y1 ^ 2 = x1 ^ 3 + b) (h2 : y2 ^ 2 = x2 ^ 3 + b) (hx : x2 - x1 ≠ 0)
    (hlam : lam * (x2 - x1) = y2 - y1) : SecantEq lam x1 y1 x2 := by
  refine mul_left_cancel₀ hx ?_
  linear_combination (lam * (x2 - x1) + (y2 - y1) + 2 * y1) * hlam + h2 - h1

/-- The tangent meets the curve in its point twice. -/
theorem secantEq_of_tangent (hlam : lam * (2 * y1) = 3 * x1 ^ 2) : SecantEq lam x1 y1 x1 := by
  unfold SecantEq
  linear_combination hlam

/-- The third point of the line, negated, lies on the curve. -/
theorem curveEq_of_secantEq (h1 : y1 ^ 2 = x1 ^ 3 + b) (hs : SecantEq lam x1 y1 x2) (hx : x3 = lam ^ 2 - x1 - x2)
    (hy : y3 = lam * (x1 - x3) - y1) : y3 ^ 2 = x3 ^ 3 + b := by
  unfold SecantEq at hs
  subst hy hx
  linear_combination h1 + (lam ^ 2 - 2 * x1 - x2) * hs

end field

/-! ### The third point modulo the prime -/

section chord

variable {c : Curve} {num den lam : Int} {x1 y1 x2 y2 x3 y3 : Nat}

theorem onCurve_iff : OnCurve c x1 y1 ↔ (y1 : ZMod c.p) ^ 2 = (x1 : ZMod c.p) ^ 3 + c.b := by
  rw [OnCurve, ← Int.dvd_iff_emod_eq_zero, ← ZMod.intCast_zmod_eq_zero_iff_dvd]
  push_cast
  rw [sub_sub, sub_eq_zero]

/-- `x3` and `y3` are coordinates, in some representatives, of the third point of the line of slope `lam = num / den` through `(x1, y1)`,
negated, where the line meets the curve again at `x2` (R402, R403). -/
structure ThirdPoint (c : Curve) (num den lam : Int) (x1 y1 x2 x3 y3 : Nat) : Prop where
  xlt : x3 < 256 ^ c.coordSize
  ylt : y3 < 256 ^ c.coordSize
  slope : lam * den ≡ num [ZMOD c.p]
  x : (x3 : Int) ≡ lam ^ 2 - x1 - x2 [ZMOD c.p]
  y : (y3 : Int) ≡ lam * (x1 - x3) - y1 [ZMOD c.p]

/-- The slope that `chord` computes. -/
theorem slope_congr {p : Nat} (hp : p.Prime) (hden : ¬ den ≡ 0 [ZMOD p]) :
    num * modInv (fe p den) p % p * den ≡ num [ZMOD p] := by
  have hfe : ((fe p den : Nat) : ZMod p) = den := cast_fe hp.pos den
  have hne : ((fe p den : Nat) : ZMod p) ≠ 0 := by
    rw [hfe]
    exact fun h => hden ((ZMod.intCast_eq_intCast_iff _ _ _).1 (h.trans Int.cast_zero.symm))
  have hinv := cast_modInv hp hne
  rw [hfe] at hinv
  refine (ZMod.intCast_eq_intCast_iff _ _ _).1 ?_
  rw [Int.cast_mul, ZMod.intCast_mod]
  push_cast
  linear_combination (num : ZMod p) * hinv

/-- The representatives of what `chord` answers are the third point, whichever the free choices are. -/
theorem exists_thirdPoint (hp : c.p.Prime) (hlt : c.p < 256 ^ c.coordSize) (hden : ¬ den ≡ 0 [ZMOD c.p]) (k : Nat) :
    ∃ lam, ThirdPoint c num den lam x1 y1 x2 (representative c.p c.coordSize k (chord c.p num den x1 y1 x2).1)
      (representative c.p c.coordSize (k + 1) (chord c.p num den x1 y1 x2).2) := by
  have hx := representative_congr hp.pos c.coordSize k (chord c.p num den x1 y1 x2).1
  have hy := representative_congr hp.pos c.coordSize (k + 1) (chord c.p num den x1 y1 x2).2
  refine ⟨num * modInv (fe c.p den) c.p % c.p, representative_lt hp.pos hlt.le _ _, representative_lt hp.pos hlt.le _ _,
    slope_congr hp hden, hx.trans (Int.mod_modEq _ _), ?_⟩
  exact (hy.trans (Int.mod_modEq _ _)).trans (((hx.symm.sub_left _).mul_left _).sub_right _)

/-- The third point lies on the curve. -/
theorem ThirdPoint.onCurve (h : ThirdPoint c num den lam x1 y1 x2 x3 y3) (h1 : OnCurve c x1 y1)
    (hs : SecantEq (lam : ZMod c.p) x1 y1 x2) : OnCurve c x3 y3 := by
  refine onCurve_iff.2 (curveEq_of_secantEq (onCurve_iff.1 h1) hs ?_ ?_)
  · exact_mod_cast (ZMod.intCast_eq_intCast_iff _ _ _).2 h.x
  · exact_mod_cast (ZMod.intCast_eq_intCast_iff _ _ _).2 h.y

theorem ThirdPoint.onCurve_of_chord (h : ThirdPoint c (y2 - y1) (x2 - x1) lam x1 y1 x2 x3 y3) (hp : c.p.Prime)
    (hx : ¬ (x1 : Int) ≡ x2 [ZMOD c.p]) (h1 : OnCurve c x1 y1) (h2 : OnCurve c x2 y2) : OnCurve c x3 y3 := by
  have : Fact c.p.Prime := ⟨hp⟩
  have hne : (x2 : ZMod c.p) - x1 ≠ 0 := fun h0 =>
    hx ((ZMod.intCast_eq_intCast_iff _ _ _).1 (by exact_mod_cast (sub_eq_zero.1 h0).symm))
  have hslope : (lam : ZMod c.p) * (x2 - x1) = y2 - y1 := by
    exact_mod_cast (ZMod.intCast_eq_intCast_iff _ _ _).2 h.slope
  exact h.onCurve h1 (secantEq_of_chord (onCurve_iff.1 h1) (onCurve_iff.1 h2) hne hslope)

theorem ThirdPoint.onCurve_of_tangent (h : ThirdPoint c (3 * (x1 : Int) ^ 2) (2 * y1) lam x1 y1 x1 x3 y3)
    (h1 : OnCurve c x1 y1) : OnCurve c x3 y3 := by
  have hslope : (lam : ZMod c.p) * (2 * y1) = 3 * (x1 : ZMod c.p) ^ 2 := by
    exact_mod_cast (ZMod.intCast_eq_intCast_iff _ _ _).2 h.slope
  exact h.onCurve h1 (secantEq_of_tangent hslope)

end chord

/-! ### Points in memory -/

section points

variable {s : State} {cv : Curve} {op : Op} {i j : Instr} {idx : BitVec 4} {n r q x y : Nat}

theorem curve_p_lt (hw : s.cfg.Wf) (h : s.cfg.curves[n]? = some cv) : cv.p < 256 ^ cv.coordSize := by
  obtain ⟨-, -, -, -, -, -, -, -, -, -, -, -, -, hcurves, -⟩ := hw
  exact (hcurves cv (List.mem_of_getElem? h)).1

/-- The word of a curve instruction runs as its instruction where the curve is configured (R556). -/
theorem exec_eq_of_withCurve (ht : transpile s.cfg i = withCurve s.cfg idx j) (h : s.cfg.curves[idx.toNat]? = some cv) :
    exec i s = exec j s := by
  have hidx : idx.toNat < s.cfg.curves.length := (List.getElem?_eq_some_iff.1 h).1
  rw [exec_eq_runTranspiled i, ht, withCurve, if_pos hidx]
  rfl

theorem readCells_add (m : Memory) (sp q j k : Nat) :
    m.readCells sp q (j + k) = m.readCells sp q j ++ m.readCells sp (q + j) k := by
  simp [Memory.readCells, List.range_add, Nat.add_assoc]

/-- A point whose coordinates are held one after the other is loaded as these (R401). -/
theorem loadPoint_of_holds (hw : s.cfg.Wf) (hr : s.PointsTo r q (2 * cv.coordSize) cv.blockSize)
    (hx : s.HoldsBytes 2 q cv.coordSize x) (hy : s.HoldsBytes 2 (q + cv.coordSize) cv.coordSize y) :
    s.loadPoint cv r = .ok (x, y) := by
  have hcells : s.mem.readCells 2 q (2 * cv.coordSize) = leBytes x cv.coordSize ++ leBytes y cv.coordSize := by
    rw [two_mul, readCells_add, readCells_of_bytes hx.2, readCells_of_bytes hy.2]
  refine loadPoint_ok.2 ⟨_, loadBytes_ok.2 ⟨q, regPointer_of_pointsTo hw hr,
    rangeOk_of_fits (Config.Wf.validSpace hw (by decide) (by decide)) hr.2.1, ?_, hcells⟩, ?_, ?_⟩
  · exact fun v hv => (List.mem_append.1 hv).elim lt_of_mem_leBytes lt_of_mem_leBytes
  · rw [List.take_left' (by simp), leNat_leBytes_of_lt hx.1]
  · rw [List.drop_left' (by simp), leNat_leBytes_of_lt hy.1]

/-- The cells of a stored point are the bytes of its two representatives (R401). -/
theorem wrote_of_point (hr : s.Ready op) (u v : Int) :
    Wrote { s with draws := s.draws + 2 } (s.wrotePoint cv q u v) (s.pc + 4) 2 q (2 * cv.coordSize)
      (fun k => if k < cv.coordSize then byteOf (representative cv.p cv.coordSize s.draws u) k
        else byteOf (representative cv.p cv.coordSize (s.draws + 1) v) (k - cv.coordSize)) := by
  refine wrote_of_ready (s := { s with draws := s.draws + 2 }) hr (by simp) fun k hk => ?_
  unfold pointCells
  split_ifs with h
  · rw [List.getD_append _ _ _ _ (by simpa using h), leBytes_getD h]
  · rw [List.getD_append_right _ _ _ _ (by simpa using h), leBytes_length, leBytes_getD (by omega)]

end points

/-! ### The instructions -/

section instructions

variable {s : State} {cv : Curve} {ra : Word} {n a b c q x1 y1 x2 y2 : Nat}

theorem sub_emod_ne_zero {p : Nat} (h : ¬ (x1 : Int) ≡ x2 [ZMOD p]) : ((x1 : Int) - x2) % p ≠ 0 :=
  fun h0 => h (Int.emod_eq_emod_iff_emod_sub_eq_zero.2 h0)

/-- `SW_ADD_NE` on two points of the curve with different `x` (R402). -/
theorem execSwAddNe_of_points (hr : s.Ready (.swAddNe n)) (hcv : s.cfg.curves[n]? = some cv)
    (ha : s.PointsTo a q (2 * cv.coordSize) cv.blockSize) (hP : s.loadPoint cv b = .ok (x1, y1))
    (hQ : s.loadPoint cv c = .ok (x2, y2)) (hx : ¬ (x1 : Int) ≡ x2 [ZMOD cv.p]) (h1 : OnCurve cv x1 y1)
    (h2 : OnCurve cv x2 y2) :
    execSwAddNe n ⟨a, b, c, 1, 2, 0, 0⟩ s =
      .next (s.wrotePoint cv q (chord cv.p ((y2 : Int) - y1) ((x2 : Int) - x1) x1 y1 x2).1
        (chord cv.p ((y2 : Int) - y1) ((x2 : Int) - x1) x1 y1 x2).2) :=
  execSwAddNe_next.2 ⟨hr.2.1, ⟨rfl, rfl, rfl, rfl⟩, cv, x1, y1, x2, y2, q, hcv, hP, hQ, sub_emod_ne_zero hx, ⟨h1, h2⟩,
    regPointer_of_pointsTo hr.1 ha, rangeOk_of_fits (Config.Wf.validSpace hr.1 (by decide) (by decide)) ha.2.1,
    stepOk_of_ready hr, rfl⟩

/-- `SW_DOUBLE` on a point of the curve whose `y` is not 0 (R403). -/
theorem execSwDouble_of_point (hr : s.Ready (.swDouble n)) (hcv : s.cfg.curves[n]? = some cv)
    (ha : s.PointsTo a q (2 * cv.coordSize) cv.blockSize) (hP : s.loadPoint cv b = .ok (x1, y1)) (h1 : OnCurve cv x1 y1)
    (hy : ¬ 2 * (y1 : Int) ≡ 0 [ZMOD cv.p]) :
    execSwDouble n ⟨a, b, 0, 1, 2, 0, 0⟩ s =
      .next (s.wrotePoint cv q (chord cv.p (3 * (x1 : Int) ^ 2) (2 * (y1 : Int)) x1 y1 x1).1
        (chord cv.p (3 * (x1 : Int) ^ 2) (2 * (y1 : Int)) x1 y1 x1).2) :=
  execSwDouble_next.2 ⟨hr.2.1, ⟨rfl, rfl, rfl, rfl, rfl⟩, cv, x1, y1, q, hcv, hP, h1, hy, regPointer_of_pointsTo hr.1 ha,
    rangeOk_of_fits (Config.Wf.validSpace hr.1 (by decide) (by decide)) ha.2.1, stepOk_of_ready hr, rfl⟩

/-! ### Their faults -/

/-- Once both points and the register `a` are read, `SW_ADD_NE` checks the `x` coordinates, then the curve (R402). -/
theorem execSwAddNe_fault (hop : opEnabled s.cfg (.swAddNe n) = true) (hcv : s.cfg.curves[n]? = some cv)
    (ha : s.reg32 a = .ok ra) (hP : s.loadPoint cv b = .ok (x1, y1)) (hQ : s.loadPoint cv c = .ok (x2, y2)) :
    ((x1 : Int) ≡ x2 [ZMOD cv.p] → execSwAddNe n ⟨a, b, c, 1, 2, 0, 0⟩ s = .fault .ecSameX) ∧
    (¬ (x1 : Int) ≡ x2 [ZMOD cv.p] → ¬ (OnCurve cv x1 y1 ∧ OnCurve cv x2 y2) →
      execSwAddNe n ⟨a, b, c, 1, 2, 0, 0⟩ s = .fault .ecNotOnCurve) := by
  have hop' : s.requireOp (.swAddNe n) = .ok () := requireOp_ok.2 hop
  constructor
  · intro hx
    have hsame : ¬ ((x1 : Int) - x2) % cv.p ≠ 0 := not_not.2 (Int.emod_eq_emod_iff_emod_sub_eq_zero.1 hx)
    simp only [execSwAddNe, outcome_fault, hop', require_of, curve_ok.2 hcv, hP, hQ, ha, require_not hsame, ok_bind,
      error_bind, and_self]
  · intro hx hoff
    simp only [execSwAddNe, outcome_fault, hop', require_of, curve_ok.2 hcv, hP, hQ, ha, require_of (sub_emod_ne_zero hx),
      require_not hoff, ok_bind, error_bind, and_self]

/-- Once the point and the register `a` are read, `SW_DOUBLE` checks the curve, then the order (R403). -/
theorem execSwDouble_fault (hop : opEnabled s.cfg (.swDouble n) = true) (hcv : s.cfg.curves[n]? = some cv)
    (ha : s.reg32 a = .ok ra) (hP : s.loadPoint cv b = .ok (x1, y1)) :
    (¬ OnCurve cv x1 y1 → execSwDouble n ⟨a, b, 0, 1, 2, 0, 0⟩ s = .fault .ecNotOnCurve) ∧
    (OnCurve cv x1 y1 → 2 * (y1 : Int) ≡ 0 [ZMOD cv.p] →
      execSwDouble n ⟨a, b, 0, 1, 2, 0, 0⟩ s = .fault .ecDoubleOrder2) := by
  have hop' : s.requireOp (.swDouble n) = .ok () := requireOp_ok.2 hop
  constructor
  · intro hoff
    simp only [execSwDouble, outcome_fault, hop', require_of, curve_ok.2 hcv, hP, ha, require_not hoff, ok_bind, error_bind,
      and_self]
  · intro h1 hy
    have horder : ¬ (2 * (y1 : Int)) % cv.p ≠ 0 := not_not.2 hy
    simp only [execSwDouble, outcome_fault, hop', require_of, curve_ok.2 hcv, hP, ha, require_of h1, require_not horder,
      ok_bind, error_bind, and_self]

end instructions

end Sys2Proof.Machine

namespace Sys2Proof

open Machine

/-- Settles O42: the chord through two points with different `x` has a slope, and its third point is the one that is stored. -/
theorem curveAdditionStaysOnTheCurve : Obligations.CurveAdditionStaysOnTheCurve := by
  intro s i n cv a b c x1 y1 x2 y2 qa qb qc hr hi hcv hp ha hP hQ hx1 hy1 hx2 hy2 hx h1 h2
  have hexec : exec i s = exec (.swAddNe n ⟨a, b, c, 1, 2, 0, 0⟩) s := by
    rcases hi with rfl | ⟨idx, rd, rs1, rs2, rfl, rfl, rfl, rfl, rfl⟩
    · rfl
    · exact exec_eq_of_withCurve rfl hcv
  have hloadP := loadPoint_of_holds hr.1 hP hx1 hy1
  have hloadQ := loadPoint_of_holds hr.1 hQ hx2 hy2
  have hden : ¬ (x2 : Int) - x1 ≡ 0 [ZMOD cv.p] := sub_emod_ne_zero fun h => hx h.symm
  obtain ⟨lam, h⟩ := exists_thirdPoint (num := (y2 : Int) - y1) (x1 := x1) (y1 := y1) (x2 := x2) hp (curve_p_lt hr.1 hcv) hden
    s.draws
  exact ⟨_, _, _, lam, hexec.trans (execSwAddNe_of_points hr hcv ha hloadP hloadQ hx h1 h2), h.xlt, h.ylt, h.slope, h.x,
    h.y, h.onCurve_of_chord hp hx h1 h2, wrote_of_point hr _ _⟩

/-- Settles O43: the tangent in a point whose `y` is not 0 has a slope, and its third point is the one that is stored. -/
theorem curveDoublingStaysOnTheCurve : Obligations.CurveDoublingStaysOnTheCurve := by
  intro s i n cv a b x1 y1 qa qb hr hi hcv hp ha hP hx1 hy1 h1 hy
  have hexec : exec i s = exec (.swDouble n ⟨a, b, 0, 1, 2, 0, 0⟩) s := by
    rcases hi with rfl | ⟨idx, rd, rs1, rfl, rfl, rfl, rfl⟩
    · rfl
    · exact exec_eq_of_withCurve rfl hcv
  have hloadP := loadPoint_of_holds hr.1 hP hx1 hy1
  obtain ⟨lam, h⟩ := exists_thirdPoint (num := 3 * (x1 : Int) ^ 2) (x1 := x1) (y1 := y1) (x2 := x1) hp (curve_p_lt hr.1 hcv) hy
    s.draws
  have hx3 := h.x
  rw [sub_sub, ← two_mul] at hx3
  exact ⟨_, _, _, lam, hexec.trans (execSwDouble_of_point hr hcv ha hloadP h1 hy), h.xlt, h.ylt, h.slope, hx3, h.y,
    h.onCurve_of_tangent h1, wrote_of_point hr _ _⟩

/-- Settles O44: the inputs are read, and the check that the source omits is the first to fail. -/
theorem undefinedBehavioursFault : Obligations.UndefinedBehavioursFault := by
  refine ⟨?_, ?_⟩
  · intro s n m a b c ra x y qb qc hr hm ha hb hc hx hy hgcd
    exact execModular_of_undefined hr.2.1 hm (reg32_of_holds hr.1 ha) (loadsBig_of_holds hr.1 hb hx)
      (loadsBig_of_holds hr.1 hc hy) (modDiv_of_not_coprime hgcd)
  · intro s n cv a b c ra x1 y1 x2 y2 qb qc hw hcv ha hP hQ hx1 hy1 hx2 hy2
    have hloadP := loadPoint_of_holds hw hP hx1 hy1
    have hloadQ := loadPoint_of_holds hw hQ hx2 hy2
    exact ⟨fun hop => execSwAddNe_fault hop hcv (reg32_of_holds hw ha) hloadP hloadQ,
      fun hop => execSwDouble_fault hop hcv (reg32_of_holds hw ha) hloadP⟩

end Sys2Proof
end

section
/-!
PROOF. In a program of RISC-V words no step writes `x0` (R475). What the transpiler answers for a word writes a row of cells in
another space than that of the registers, or the register of its `rd`, which is not `x0`, or no cell at all.
-/

namespace Sys2Proof.Machine

section x0

variable {s t : State} {op : Op} {o : Operands} {q sp n : Nat} {l : List Nat} {i : Instr} {rd : BitVec 5}

/-! ### What leaves the cells of `x0` -/

/-- The cells of `x0` hold what they held. -/
def X0Kept (s t : State) : Prop := ∀ k < 4, t.mem.read ⟨1, k⟩ = s.mem.read ⟨1, k⟩

theorem x0Kept_of_mem_eq (h : t.mem = s.mem) : X0Kept s t := fun _ _ => by rw [h]

/-- A row in another space than 1, or one that starts above the first register, leaves `x0`. -/
theorem x0Kept_of_row (h : sp ≠ 1 ∨ 4 ≤ q) (hm : t.mem = s.mem.writeCells sp q l) : X0Kept s t := by
  intro k hk
  rw [hm, Memory.read_writeCells, if_neg (by simp only; omega)]

/-- The pointer of a register other than `x0`. -/
theorem four_le_ind (h : rd ≠ 0) : 4 ≤ ind rd := by
  have hpos : 0 < rd.toNat := Nat.pos_of_ne_zero fun h0 => h (BitVec.eq_of_toNat_eq h0)
  unfold ind
  omega

/-! ### The skeletons -/

theorem execAlu_x0Kept {f : Word → Word → Word} (ha : 4 ≤ o.a) (h : execAlu op f o s = .next t) : X0Kept s t := by
  obtain ⟨-, -, -, _, _, -, -, -, -, rfl⟩ := execAlu_next.1 h
  exact x0Kept_of_row (.inr ha) rfl

theorem execMulDiv_x0Kept {f : Word → Word → Word} (ha : 4 ≤ o.a) (h : execMulDiv op f o s = .next t) : X0Kept s t := by
  obtain ⟨-, -, _, _, -, -, -, -, rfl⟩ := execMulDiv_next.1 h
  exact x0Kept_of_row (.inr ha) rfl

theorem execLoad_x0Kept {conv : List Nat → Word} (ha : 4 ≤ o.a) (h : execLoad op n conv o s = .next t) : X0Kept s t := by
  obtain ⟨-, _, -, -, -, -, rfl⟩ := execLoad_next.1 h
  exact x0Kept_of_row (.inr ha) rfl

theorem execStore_x0Kept (he : o.e ≠ 1) (h : execStore op n o s = .next t) : X0Kept s t := by
  obtain ⟨-, -, _, -, -, -, rfl⟩ := execStore_next.1 h
  exact x0Kept_of_row (.inl he) rfl

theorem execReveal_x0Kept (h : execRevealRv32 o s = .next t) : X0Kept s t := by
  obtain ⟨-, -, -, -, -, -, _, -, -, -, rfl⟩ := execRevealRv32_next.1 h
  exact x0Kept_of_row (.inl (by decide)) rfl

theorem execLui_x0Kept (ha : 4 ≤ o.a) (h : execLuiRv32 o s = .next t) : X0Kept s t := by
  obtain ⟨-, -, -, -, -, rfl⟩ := execLuiRv32_next.1 h
  exact x0Kept_of_row (.inr ha) rfl

theorem execAuipc_x0Kept (ha : 4 ≤ o.a) (h : execAuipcRv32 o s = .next t) : X0Kept s t := by
  obtain ⟨-, -, -, -, -, rfl⟩ := execAuipcRv32_next.1 h
  exact x0Kept_of_row (.inr ha) rfl

/-- A conditional transfer writes no cell. -/
theorem branch_x0Kept {b : Bool} {c : Nat} (h : (if b = true then s.jumpBy c else s.advance) = .ok t) : X0Kept s t := by
  rcases branch_ok.1 h with ⟨-, -, rfl⟩ | ⟨-, -, rfl⟩ <;> exact x0Kept_of_mem_eq rfl

theorem execBranch_x0Kept {cond : Word → Word → Bool} (h : execBranch op cond o s = .next t) : X0Kept s t := by
  obtain ⟨-, -, -, _, _, -, -, hjump⟩ := execBranch_next.1 h
  exact branch_x0Kept hjump

theorem execBranch256_x0Kept {cond : Wide → Wide → Bool} (h : execBranch256 op cond o s = .next t) : X0Kept s t := by
  obtain ⟨-, -, -, _, _, -, -, hjump⟩ := execBranch256_next.1 h
  exact branch_x0Kept hjump

/-- The link of a jump is not written, or written to a register other than `x0`. -/
theorem link_x0Kept {a f : Nat} (ha : f ≠ 0 → 4 ≤ a) (h : s.link a f = .ok t) : X0Kept s t := by
  rcases link_ok.1 h with ⟨-, rfl⟩ | ⟨hf, -, rfl⟩
  · exact x0Kept_of_mem_eq rfl
  · exact x0Kept_of_row (.inr (ha hf)) rfl

theorem execJalRv32_x0Kept (ha : o.f ≠ 0 → 4 ≤ o.a) (h : execJalRv32 o s = .next t) : X0Kept s t := by
  obtain ⟨-, -, -, u, hlink, hjump⟩ := execJalRv32_next.1 h
  obtain ⟨-, rfl⟩ := jumpBy_ok.1 hjump
  have hu : X0Kept s u := link_x0Kept ha hlink
  exact hu

theorem execJalrRv32_x0Kept (ha : o.f ≠ 0 → 4 ≤ o.a) (h : execJalrRv32 o s = .next t) : X0Kept s t := by
  obtain ⟨-, -, -, _, u, -, hlink, -, hjump⟩ := execJalrRv32_next.1 h
  obtain ⟨-, rfl⟩ := setPc_ok.1 hjump
  have hu : X0Kept s u := link_x0Kept ha hlink
  exact hu

theorem execTerminate_x0Kept (h : execTerminate o s = .next t) : X0Kept s t := by
  obtain ⟨-, -, rfl⟩ := execTerminate_next.1 h
  exact x0Kept_of_mem_eq rfl

theorem execPhantom_x0Kept {disc : Nat} {p : PhantomOperands} (h : runPhantom (phantomEffect disc) p s = .next t) :
    X0Kept s t := by
  obtain ⟨-, -, u, hu, -, rfl⟩ := runPhantom_next.1 h
  exact x0Kept_of_mem_eq (phantomEffect_done hu).mem_eq

theorem execHintstorew_x0Kept (h : execHintstorewRv32 o s = .next t) : X0Kept s t := by
  obtain ⟨-, -, -, _, -, -, -, -, -, rfl⟩ := execHintstorewRv32_next.1 h
  exact x0Kept_of_row (.inl (by decide)) rfl

theorem execKeccak_x0Kept (he : o.e ≠ 1) (h : execKeccak256Rv32 o s = .next t) : X0Kept s t := by
  obtain ⟨-, -, -, _, _, _, _, _, _, -, -, -, -, -, -, -, -, -, -, -, rfl⟩ := execKeccak256Rv32_next.1 h
  exact x0Kept_of_row (.inl he) rfl

theorem execInt256_x0Kept {f : Wide → Wide → Wide} (h : execInt256 op f o s = .next t) : X0Kept s t := by
  obtain ⟨-, -, _, _, _, -, -, -, -, -, rfl⟩ := execInt256_next.1 h
  exact x0Kept_of_row (.inl (by decide)) rfl

theorem execModular_x0Kept {f : Nat → Nat → Nat → Except Fault Int} (h : execModular op f n o s = .next t) : X0Kept s t := by
  obtain ⟨-, -, _, _, _, _, _, -, -, -, -, -, -, -, rfl⟩ := execModular_next.1 h
  exact x0Kept_of_row (.inl (by decide)) rfl

theorem execIseqmod_x0Kept (ha : 4 ≤ o.a) (h : execIseqmodRv32 n o s = .next t) : X0Kept s t := by
  obtain ⟨-, -, _, _, _, -, -, -, -, -, -, rfl⟩ := execIseqmodRv32_next.1 h
  exact x0Kept_of_row (.inr ha) rfl

theorem execSwAddNe_x0Kept (h : execSwAddNe n o s = .next t) : X0Kept s t := by
  obtain ⟨-, -, _, _, _, _, _, _, -, -, -, -, -, -, -, -, rfl⟩ := execSwAddNe_next.1 h
  exact x0Kept_of_row (.inl (by decide)) rfl

theorem execSwDouble_x0Kept (h : execSwDouble n o s = .next t) : X0Kept s t := by
  obtain ⟨-, -, _, _, _, _, -, -, -, -, -, -, -, rfl⟩ := execSwDouble_next.1 h
  exact x0Kept_of_row (.inl (by decide)) rfl

/-! ### What the transpiler answers for a word -/

/-- The instruction never writes `x0`, in whatever state it runs. -/
def LeavesX0 (j : Instr) : Prop := ∀ s t, exec j s = .next t → X0Kept s t

/-- The `NOP` stands for a word without a write enable; for any other `rd` the instruction counts (R475, D19). -/
theorem unlessX0_leavesX0 {j : Instr} (h : 4 ≤ ind rd → LeavesX0 j) : Answers LeavesX0 (unlessX0 rd j) := by
  unfold unlessX0
  split_ifs with hrd
  · exact answers_ok fun _ _ => execPhantom_x0Kept (disc := 0)
  · exact answers_ok (h (four_le_ind hrd))

/-- The jumps link without a check of `rd`: their write enable says whether they do (R513, R514). -/
theorem four_le_ind_of_writeEnable (h : writeEnable rd ≠ 0) : 4 ≤ ind rd :=
  four_le_ind fun h0 => h (if_pos h0)

theorem transpile_leavesX0 (cfg : Config) (hi : i.op = none) : Answers LeavesX0 (transpile cfg i) := by
  cases i with
  | rvAdd | rvSub | rvXor | rvOr | rvAnd | rvSll | rvSrl | rvSra | rvSlt | rvSltu | rvAddi | rvXori | rvOri | rvAndi | rvSlli
  | rvSrli | rvSrai | rvSlti | rvSltiu => exact unlessX0_leavesX0 fun hrd _ _ => execAlu_x0Kept hrd
  | rvLb | rvLh | rvLw | rvLbu | rvLhu => exact unlessX0_leavesX0 fun hrd _ _ => execLoad_x0Kept hrd
  | rvLui => exact unlessX0_leavesX0 fun hrd _ _ => execLui_x0Kept hrd
  | rvAuipc => exact unlessX0_leavesX0 fun hrd _ _ => execAuipc_x0Kept hrd
  | rvMul | rvMulh | rvMulhsu | rvMulhu | rvDiv | rvDivu | rvRem | rvRemu =>
    exact unlessX0_leavesX0 fun hrd _ _ => execMulDiv_x0Kept hrd
  | rvSb | rvSh | rvSw => exact answers_ok fun _ _ => execStore_x0Kept (show 2 ≠ 1 by decide)
  | rvReveal => exact answers_ok fun _ _ => execReveal_x0Kept
  | rvBeq | rvBne | rvBlt | rvBge | rvBltu | rvBgeu => exact answers_ok fun _ _ => execBranch_x0Kept
  | rvJal => exact answers_ok fun _ _ => execJalRv32_x0Kept four_le_ind_of_writeEnable
  | rvJalr => exact answers_ok fun _ _ => execJalrRv32_x0Kept four_le_ind_of_writeEnable
  | rvTerminate => exact answers_ok fun _ _ => execTerminate_x0Kept
  | rvHintinput => exact answers_ok fun _ _ => execPhantom_x0Kept (disc := 3)
  | rvHintstorew => exact answers_ok fun _ _ => execHintstorew_x0Kept
  | rvKeccak256 => exact answers_ok fun _ _ => execKeccak_x0Kept (show 2 ≠ 1 by decide)
  | rvAdd256 | rvSub256 | rvXor256 | rvOr256 | rvAnd256 | rvSll256 | rvSrl256 | rvSra256 | rvSlt256 | rvSltu256 | rvMul256 =>
    exact answers_ok fun _ _ => execInt256_x0Kept
  | rvBeq256 | rvBne256 | rvBlt256 | rvBge256 | rvBltu256 | rvBgeu256 =>
    exact answers_withBranch256 fun _ _ _ => execBranch256_x0Kept
  | rvAddmod | rvSubmod | rvMulmod | rvDivmod => exact answers_withModulus fun _ _ _ => execModular_x0Kept
  | rvIseqmod idx rd =>
    rw [transpile]
    split_ifs with hrd
    · exact answers_error
    · exact answers_withModulus fun _ _ _ => execIseqmod_x0Kept (four_le_ind hrd)
  | rvSwAddNe => exact answers_withCurve fun _ _ _ => execSwAddNe_x0Kept
  | rvSwDouble => exact answers_withCurve fun _ _ _ => execSwDouble_x0Kept
  | _ => cases hi

/-- An instruction that completes ran as what the transpiler answers for it (R470). -/
theorem exists_transpile_of_exec_next (h : exec i s = .next t) : ∃ j, transpile s.cfg i = .ok j ∧ exec j s = .next t := by
  rw [exec_eq_runTranspiled] at h
  cases ht : transpile s.cfg i with
  | ok j => exact ⟨j, rfl, by rwa [ht] at h⟩
  | error why => rw [ht] at h; cases h

/-- A RISC-V word that completes leaves `x0` as it was. -/
theorem exec_word_x0Kept (hi : i.op = none) (h : exec i s = .next t) : X0Kept s t := by
  obtain ⟨j, hj, hexec⟩ := exists_transpile_of_exec_next h
  exact transpile_leavesX0 s.cfg hi j hj s t hexec

end x0

end Sys2Proof.Machine

namespace Sys2Proof

open Machine

/-- Settles O18. -/
theorem wordsRunAsTheirTranspilation : Obligations.WordsRunAsTheirTranspilation := exec_eq_runTranspiled

/-- Settles O12: the entry at `pc` is a word, the instruction it decodes to is none of the axVM's own, and no instruction writes the
program. -/
theorem riscvProgramsNeverWriteX0 : Obligations.RiscvProgramsNeverWriteX0 := by
  intro s t hs h
  obtain ⟨-, -, -, e, i, he, hdecode, hexec⟩ := step_next.1 h
  obtain ⟨w, rfl⟩ := hs _ (mem_of_get? he)
  refine ⟨fun x hx => hs x ?_, exec_word_x0Kept (decodeWord_answersWord i hdecode) hexec⟩
  rwa [(exec_effect hexec).prog_eq] at hx

end Sys2Proof
end

section
/-!
PROOF. The moves, `CASTF`, the field arithmetic and Poseidon2 of the native kernel (`48_native_kernel.md`): the pointers and values
that the instructions compute, the rows that they write, and their two faults.
-/

namespace Sys2Proof.Machine

section moves

variable {s : State} {o : Operands} {a b d e v w k n : Nat} {op : Op}

/-! ### Rows of one and of several cells -/

theorem readCells_getD (m : Memory) (sp q : Nat) (hk : k < n) : (m.readCells sp q n).getD k 0 = m.read ⟨sp, q + k⟩ := by
  rw [List.getD_eq_getElem _ _ (by simpa using hk), Memory.readCells_getElem]

/-- The default step with one cell written. -/
theorem wrote_cell_of_ready (hr : s.Ready op) {sp q : Nat} : Wrote s (s.wrote sp q [v]) (s.pc + 4) sp q 1 (fun _ => v) := by
  refine wrote_of_ready hr rfl fun k hk => ?_
  obtain rfl : k = 0 := by omega
  rfl

/-- The default step with a row of cells copied. -/
theorem wrote_copy_of_ready (hr : s.Ready op) {sp q sp' q' : Nat} :
    Wrote s (s.wrote sp q (s.mem.readCells sp' q' w)) (s.pc + 4) sp q w (fun k => s.mem.read ⟨sp', q' + k⟩) :=
  wrote_of_ready hr (by simp) fun _ hk => readCells_getD _ _ _ hk

/-- The pointer of `LOAD2` and `STORE2` is one reduction of the sum (R432). -/
theorem pointer2_eq : s.pointer2 o = (s.mem.read ⟨o.d, o.c⟩ + s.mem.read ⟨o.d, o.f⟩ * o.g + o.b) % s.cfg.p := by
  simp only [State.pointer2, fadd, fmul, Nat.add_mod_mod, Nat.mod_add_mod]

/-! ### `CASTF` -/

/-- The value is read, then its size is checked, before the destination (R439). -/
theorem execCastf_of_large (hop : opEnabled s.cfg .castf = true) (hd : ValidSpace s.cfg d) (he : ValidSpace s.cfg e)
    (hb : s.Fits b 1) (hv : 2 ^ 30 ≤ s.mem.read ⟨e, b⟩) : execCastf ⟨a, b, 0, d, e, 0, 0⟩ s = .fault .castfRange := by
  have hop' : s.requireOp .castf = .ok () := requireOp_ok.2 hop
  have hspaces : s.nativeSpaces d e = .ok () := nativeSpaces_ok.2 ⟨hd, he⟩
  have hread : s.cellRead e b = .ok _ := cellRead_ok.2 ⟨⟨he, hb⟩, rfl⟩
  simp only [execCastf, outcome_fault, hop', hspaces, noFG, hread, require_of, require_not (Nat.not_lt.2 hv), ok_bind,
    error_bind, and_self]

/-- The top byte of a value of at most 30 bits has at most 6 (R439). -/
theorem byteOf_three_lt (hv : v < 2 ^ 30) : byteOf v 3 < 64 := by
  unfold byteOf
  omega

end moves

/-! ### Field arithmetic -/

section arithmetic

variable {s : State} {a b c d e p x y z : Nat} {op : Op} {f : Nat → Nat → Nat → Except Fault Nat} {cause : Fault}

/-- The operands of a native field instruction: the cell `[a]_d` exists, `[b]_d` holds `x`, and the second operand is `y`, `c`
itself for `e = 0` and the cell `[c]_e` otherwise (R440). -/
structure FieldOperands (s : State) (a b c d e x y : Nat) : Prop where
  space : ValidSpace s.cfg d
  dest : s.Fits a 1
  left : s.Fits b 1 ∧ s.mem.read ⟨d, b⟩ = x
  right : e = 0 ∧ y = c ∨ ValidSpace s.cfg e ∧ s.Fits c 1 ∧ s.mem.read ⟨e, c⟩ = y

theorem FieldOperands.rightSpace (h : FieldOperands s a b c d e x y) : e = 0 ∨ ValidSpace s.cfg e :=
  h.right.imp (·.1) (·.1)

theorem FieldOperands.val (h : FieldOperands s a b c d e x y) : s.val e c = .ok y := by
  rcases h.right with ⟨he, hy⟩ | ⟨he, hc, hy⟩
  · exact val_ok.2 (.inl ⟨he, hy⟩)
  · exact val_ok.2 (.inr ⟨he.1, ⟨he, hc⟩, hy⟩)

/-- The element that the operation answers is written. -/
theorem FieldOperands.next (h : FieldOperands s a b c d e x y) (hr : s.Ready op) (hf : f s.cfg.p x y = .ok z) :
    ∃ t, execField op f ⟨a, b, c, d, e, 0, 0⟩ s = .next t ∧ Wrote s t (s.pc + 4) d a 1 (fun _ => z) := by
  obtain ⟨hb, rfl⟩ := h.left
  exact ⟨_, execField_next.2 ⟨hr.2.1, h.space, h.rightSpace, ⟨rfl, rfl⟩, ⟨h.space, hb⟩, y, z, h.val, hf, ⟨h.space, h.dest⟩,
    stepOk_of_ready hr, rfl⟩, wrote_cell_of_ready hr⟩

/-- The fault of the operation is that of the instruction. -/
theorem FieldOperands.fault (h : FieldOperands s a b c d e x y) (hr : s.Ready op) (hf : f s.cfg.p x y = .error cause) :
    execField op f ⟨a, b, c, d, e, 0, 0⟩ s = .fault cause := by
  have hop : s.requireOp op = .ok () := requireOp_ok.2 hr.2.1
  have hleft : s.cellRead d b = .ok x := cellRead_ok.2 ⟨⟨h.space, h.left.1⟩, h.left.2⟩
  simp only [execField, outcome_fault, hop, noFG, require_of h.space, require_of h.rightSpace, require_of, hleft, h.val, hf,
    ok_bind, error_bind, and_self]

theorem fieldDiv_of_zero : fieldDiv p x 0 = .error .divByZeroF := by
  simp only [fieldDiv, ne_eq, not_true_eq_false, require_not, not_false_eq_true, error_bind]

/-- The quotient times the divisor is the dividend (R444). -/
theorem fdiv_mul_mod (hp : p.Prime) (h0 : 0 < y) (hlt : y < p) : fdiv p x y * y % p = x % p := by
  have hy : (y : ZMod p) ≠ 0 := fun h => absurd (Nat.le_of_dvd h0 ((ZMod.natCast_eq_zero_iff _ _).1 h)) (Nat.not_le.2 hlt)
  refine (ZMod.natCast_eq_natCast_iff _ _ _).1 ?_
  rw [Nat.cast_mul, fdiv, cast_fmul, mul_assoc, cast_modInv hp hy, mul_one]

end arithmetic

/-! ### Poseidon2 -/

section poseidon

variable {s : State} {l : List Nat} {e p q k n : Nat}

theorem poseidonPerm_getD (hk : k < 16) : (poseidonPerm p l).getD k 0 = Config.poseidon2Perm0 l ⟨k, hk⟩ % p := by
  rw [List.getD_eq_getElem _ _ (by simpa using hk)]
  simp [poseidonPerm]

/-- The first elements of the permutation's image, in the form of the statement. -/
theorem poseidonPerm_take_getD (hn : n ≤ 16) (hk : k < n) : ((poseidonPerm p l).take n).getD k 0 =
    if h : k < 16 then Config.poseidon2Perm0 l ⟨k, h⟩ % p else 0 := by
  have hk16 : k < 16 := hk.trans_le hn
  rw [dif_pos hk16, ← poseidonPerm_getD hk16, List.getD_eq_getElem?_getD, List.getElem?_take_of_lt hk,
    List.getD_eq_getElem?_getD]

/-- A block of sixteen cells aligned to 8 is two blocks of eight (R462). -/
theorem blockOk_halves (he : ValidSpace s.cfg e) (hq : q % 8 = 0) (hfits : s.Fits q 16) :
    s.BlockOk e q 8 ∧ s.BlockOk e (q + 8) 8 := by
  unfold State.Fits at hfits
  exact ⟨⟨⟨he, by omega⟩, by decide, hq⟩, ⟨⟨he, by omega⟩, by decide, by omega⟩⟩

end poseidon

end Sys2Proof.Machine

namespace Sys2Proof

open Machine

/-- Settles O50: the enabled block sizes are supported ones, so both blocks may be accessed. -/
theorem nativeLoadsAndStoresMoveABlock : Obligations.NativeLoadsAndStoresMoveABlock := by
  rintro s w a b c d e q hd he hc rfl hqw hq haw ha
  refine ⟨fun hr => ?_, fun hr => ?_⟩
  all_goals
    have hsize := supported_of_width hr.1 (Bool.and_eq_true_iff.1 hr.2.1).2
    have hdBlock : s.BlockOk d a w := ⟨⟨hd, ha⟩, hsize, haw⟩
    have heBlock : s.BlockOk e ((s.mem.read ⟨d, c⟩ + b) % s.cfg.p) w := ⟨⟨he, hq⟩, hsize, hqw⟩
  · exact ⟨_, execLoadNative_next.2 ⟨⟨hr.2.1, ⟨hd, he⟩, rfl, rfl⟩, ⟨hd, hc⟩, heBlock, hdBlock, stepOk_of_ready hr, rfl⟩,
      wrote_copy_of_ready hr⟩
  · exact ⟨_, execStoreNative_next.2 ⟨⟨hr.2.1, ⟨hd, he⟩, rfl, rfl⟩, ⟨hd, hc⟩, hdBlock, heBlock, stepOk_of_ready hr, rfl⟩,
      wrote_copy_of_ready hr⟩

/-- Settles O51. -/
theorem indexedLoadsAndStoresMoveACell : Obligations.IndexedLoadsAndStoresMoveACell := by
  intro s a b c d e f g q hd he hc hf ha hq hfits
  obtain rfl : s.pointer2 ⟨a, b, c, d, e, f, g⟩ = q := pointer2_eq.trans hq.symm
  refine ⟨fun hr => ?_, fun hr => ?_⟩
  · exact ⟨_, execLoad2_next.2 ⟨hr.2.1, ⟨hd, he⟩, ⟨hd, hc⟩, ⟨hd, hf⟩, ⟨he, hfits⟩, ⟨hd, ha⟩, stepOk_of_ready hr, rfl⟩,
      wrote_cell_of_ready hr⟩
  · exact ⟨_, execStore2_next.2 ⟨hr.2.1, ⟨hd, he⟩, ⟨hd, hc⟩, ⟨hd, hf⟩, ⟨hd, ha⟩, ⟨he, hfits⟩, stepOk_of_ready hr, rfl⟩,
      wrote_cell_of_ready hr⟩

/-- Settles O56. -/
theorem castfWritesTheBytes : Obligations.CastfWritesTheBytes := by
  rintro s a b d e v hr hd he hb rfl
  refine ⟨fun hv ha hfits => ?_, execCastf_of_large hr.2.1 hd he hb⟩
  have hwrote := wrote_bytes_of_ready hr (sp := d) (q := a) (n := 4) (v := s.mem.read ⟨e, b⟩)
  refine ⟨_, execCastf_next.2 ⟨⟨hr.2.1, ⟨hd, he⟩, rfl, rfl⟩, rfl, ⟨he, hb⟩, hv, ⟨⟨hd, hfits⟩, by decide, ha⟩,
    stepOk_of_ready hr, rfl⟩, hwrote, ?_⟩
  exact (hwrote.row 3 (by decide)).trans_lt (byteOf_three_lt hv)

/-- Settles O57: the four operations in turn, the quotient with the inverse that a divisor other than 0 has. -/
theorem fieldArithmeticWritesItsResult : Obligations.FieldArithmeticWritesItsResult := by
  intro s a b c d e x y hd ha hb hx hy
  have h : FieldOperands s a b c d e x y := ⟨hd, ha, ⟨hb, hx⟩, hy⟩
  refine ⟨fun hr => ?_, fun hr => ?_, fun hr => ?_, fun hr hp h0 hlt => ?_, fun hr h0 => ?_⟩
  · exact h.next hr (f := fieldAdd) rfl
  · have hpos : 0 < s.cfg.p := by have := Config.Wf.prime_gt hr.1; omega
    exact h.next hr (f := fieldSub) (congrArg Except.ok (fsub_eq_fe hpos))
  · exact h.next hr (f := fieldMul) rfl
  · obtain ⟨t, hexec, hwrote⟩ := h.next hr (f := fieldDiv) (fieldDiv_ok.2 ⟨h0.ne', rfl⟩)
    exact ⟨t, _, hexec, Nat.mod_lt _ hp.pos, fdiv_mul_mod hp h0 hlt, hwrote⟩
  · subst h0
    exact h.fault hr (f := fieldDiv) fieldDiv_of_zero

/-- Settles O59: the two batches of `PERM_POSEIDON2` make one row of sixteen cells. -/
theorem poseidonWritesThePermutation : Obligations.PoseidonWritesThePermutation := by
  rintro s a b c d e qa qb qc hd he ha hb rfl rfl hqa hqb
  refine ⟨fun hr hc hqc hcAligned hfa hfb hfc => ?_, fun hr hfa hfb => ?_⟩
  · subst hqc
    exact ⟨_, execCompressPoseidon2_next.2 ⟨⟨hr.2.1, ⟨hd, he⟩, rfl, rfl⟩, ⟨hd, ha⟩, ⟨hd, hb⟩, ⟨hd, hc⟩,
      ⟨⟨he, hfb⟩, by decide, hqb⟩, ⟨⟨he, hfc⟩, by decide, hcAligned⟩, ⟨⟨he, hfa⟩, by decide, hqa⟩, stepOk_of_ready hr, rfl⟩,
      wrote_of_ready hr (by simp) fun _ => poseidonPerm_take_getD (by decide)⟩
  · obtain ⟨hsrc, hsrc'⟩ := blockOk_halves he hqb hfb
    obtain ⟨hdst, hdst'⟩ := blockOk_halves he hqa hfa
    refine ⟨_, execPermPoseidon2_next.2 ⟨⟨hr.2.1, ⟨hd, he⟩, rfl, rfl⟩, rfl, ⟨hd, ha⟩, ⟨hd, hb⟩, hsrc, hsrc', hdst, hdst',
      stepOk_of_ready hr, rfl⟩, wrote_of_ready hr (by simp) fun k hk => ?_⟩
    rw [← readCells_add, poseidonPerm_getD hk, dif_pos hk]

end Sys2Proof
end

section
/-!
PROOF. The RV32IM words (`49_riscv_transpilation.md`): each runs the axVM instruction it becomes, whose immediate extends to the
same number as the word's, on the registers that the word names.
-/

namespace Sys2Proof.Machine

/-! ### Immediates -/

section immediates

variable {cfg : Config} {imm : BitVec 12} {off : BitVec 20}

/-- An extension of twelve bits by way of `m` bits is the extension. -/
theorem signExtend_signExtend {m : Nat} (h12 : 12 ≤ m) (h32 : m ≤ 32) :
    (BitVec.ofNat m (imm.signExtend m).toNat).signExtend 32 = imm.signExtend 32 := by
  rw [BitVec.ofNat_toNat, BitVec.setWidth_eq]
  apply BitVec.eq_of_toInt_eq
  rw [BitVec.toInt_signExtend_of_le h32, BitVec.toInt_signExtend_of_le h12, BitVec.toInt_signExtend_of_le (by norm_num)]

/-- The address of a load, a store or a `jalr` is that of RISC-V (R251, R472). -/
theorem displaced_signExtend16 (base : Word) : displaced base (signExtend16 imm) = (base + imm.signExtend 32).toInt :=
  congrArg (fun d => (base + d).toInt) (signExtend_signExtend (m := 16) (by decide) (by decide))

/-- A B-type or J-type immediate, with its bit 0, stands for twice its number (R153, R472). -/
theorem centred_fe_append_zero (hw : cfg.Wf) {n : Nat} (hn : n ≤ 24) (disp : BitVec n) :
    centred cfg.p (fe cfg.p (disp ++ (0 : BitVec 1)).toInt) = 2 * disp.toInt := by
  have hp := Config.Wf.prime_gt hw
  have hval : (disp ++ (0 : BitVec 1)).toInt = 2 * disp.toInt := BitVec.toInt_append_zero
  have h0 := BitVec.le_toInt disp
  have h1 := BitVec.toInt_lt (x := disp)
  have hpow : (2 : Int) ^ (n - 1) ≤ 2 ^ 23 := pow_le_pow_right₀ (by norm_num) (by omega)
  rw [hval]
  exact centred_fe (bound := 2 ^ 24) (by omega) (by omega) (by omega)

theorem centred_itofB (hw : cfg.Wf) : centred cfg.p (itofB cfg.p imm) = 2 * imm.toInt :=
  centred_fe_append_zero hw (by decide) imm

theorem centred_itofJ (hw : cfg.Wf) : centred cfg.p (itofJ cfg.p off) = 2 * off.toInt :=
  centred_fe_append_zero hw (by decide) off

theorem branchOffset_itofB (hw : cfg.Wf) : BranchOffset cfg.p (itofB cfg.p imm) :=
  (offset25_iff (fe_lt_prime hw _)).1 (offset25_itofB hw imm)

theorem branchOffset_itofJ (hw : cfg.Wf) : BranchOffset cfg.p (itofJ cfg.p off) :=
  (offset25_iff (fe_lt_prime hw _)).1 (offset25_itofJ hw off)

/-- The number of an upper immediate (R515, R516). -/
theorem upper_toNat : (off ++ (0 : BitVec 12)).toNat = off.toNat * 4096 := by
  rw [BitVec.toNat_append, Nat.shiftLeft_eq]
  exact Nat.or_zero _

/-- A shift amount of five bits is the amount that the shifts read from it (R233). -/
theorem shamt32_ofNat (shamt : BitVec 5) : shamt32 ((BitVec.ofNat 24 shamt.toNat).signExtend 32) = shamt.toNat := by
  have hlt := shamt.isLt
  have hmsb : (BitVec.ofNat 24 shamt.toNat).msb = false := by
    rw [BitVec.msb_eq_decide, BitVec.toNat_ofNat, decide_eq_false_iff_not]
    omega
  rw [shamt32, BitVec.signExtend_eq_setWidth_of_msb_false hmsb, BitVec.toNat_setWidth, BitVec.toNat_ofNat]
  omega

end immediates

/-! ### The operations in the terms of RISC-V -/

section values

variable (sign : DivRemSign) (z y : Word)

theorem boolWord_decide (c : Prop) [Decidable c] : boolWord 32 (decide c) = if c then 1 else 0 := by simp [boolWord]

theorem aluSlt_eq_ite : aluSlt z y = if z.toInt < y.toInt then 1 else 0 := boolWord_decide _

theorem aluSltu_eq_ite : aluSltu z y = if z.toNat < y.toNat then 1 else 0 := boolWord_decide _

theorem mulHighSigned_eq_ofInt : mulHighSigned z y = BitVec.ofInt 32 (z.toInt * y.toInt / 2 ^ 32) :=
  BitVec.eq_of_toNat_eq ((mulHighSigned_toNat z y).trans (BitVec.toNat_ofInt _).symm)

theorem mulHighSignedUnsigned_eq_ofInt : mulHighSignedUnsigned z y = BitVec.ofInt 32 (z.toInt * y.toNat / 2 ^ 32) :=
  BitVec.eq_of_toNat_eq ((mulHighSignedUnsigned_toNat z y).trans (BitVec.toNat_ofInt _).symm)

theorem mulHighUnsigned_eq_ofNat : mulHighUnsigned z y = BitVec.ofNat 32 (z.toNat * y.toNat / 2 ^ 32) := by
  rw [← mulHighUnsigned_toNat, BitVec.ofNat_toNat, BitVec.setWidth_eq]

/-- The overflowing quotient `2^31` is the same word as `-2^31`, so it needs no case of its own (R315). -/
theorem divSigned_eq_ite :
    divSigned sign z y = if y = 0 then -1 else BitVec.ofInt 32 (signedDivRem sign z.toInt y.toInt).1 := by
  unfold divSigned
  split_ifs with hy hoverflow
  · rfl
  · rw [hoverflow.1, hoverflow.2]
    cases sign <;> rfl
  · rfl

/-- The remainder of the overflowing division is 0 for either sign (R317). -/
theorem remSigned_eq_ite :
    remSigned sign z y = if y = 0 then z else BitVec.ofInt 32 (signedDivRem sign z.toInt y.toInt).2 := by
  unfold remSigned
  split_ifs with hy hoverflow
  · rfl
  · rw [hoverflow.1, hoverflow.2]
    cases sign <;> rfl
  · rfl

end values

/-! ### Words that write a register -/

section words

variable {s : State} {x : BitVec 5 → Word} {op : Op} {f : Word → Word → Word} {rd a b : BitVec 5} {i : Instr} {v : Word} {c : Nat}
  {run : State → Host.Outcome State Fault Refusal}

theorem runUnlessX0_of_ne (h : rd ≠ 0) : runUnlessX0 rd run s = run s := if_neg h

/-- A word that writes `x0` is a `NOP` (R475; log 25). -/
theorem runUnlessX0_zero (hr : s.Ready .phantom) : runUnlessX0 0 run s = .next { s with pc := s.pc + 4 } :=
  runPhantom_of_effect hr (phantomNopEffect_ok.2 ⟨⟨rfl, rfl, rfl⟩, rfl⟩) rfl rfl

theorem regPtr_of_registers (hx : s.Registers x) (r : BitVec 5) : s.RegPtr (ind r) := (holds_of_registers hx r).1

/-- The instruction gave the register `rd` the value `v` and stepped. -/
def State.Sets (s : State) (r : Host.Outcome State Fault Refusal) (rd : BitVec 5) (v : Word) : Prop :=
  r = .next (s.wrote 1 (ind rd) (leBytes v.toNat 4))

theorem execAlu_sets_of_registers (hx : s.Registers x) (hv : f (x a) (x b) = v) (hr : s.Ready op) :
    s.Sets (execAlu op f (regForm rd a b 1) s) rd v :=
  hv ▸ execAlu_of_holds hr (regPtr_of_registers hx rd) (holds_of_registers hx a) (.inl ⟨rfl, holds_of_registers hx b⟩)

theorem execAlu_sets_of_immediate (hx : s.Registers x) (hc : AluImmediate c)
    (hv : f (x a) ((BitVec.ofNat 24 c).signExtend 32) = v) (hr : s.Ready op) :
    s.Sets (execAlu op f (immForm rd a c 0) s) rd v :=
  hv ▸ execAlu_of_holds hr (regPtr_of_registers hx rd) (holds_of_registers hx a) (.inr ⟨rfl, hc, rfl⟩)

/-- The immediate of an I-type word, extended to 24 bits and then to 32 (R221, R490). -/
theorem execAlu_sets_of_imm12 {imm : BitVec 12} (hx : s.Registers x) (hv : f (x a) (imm.signExtend 32) = v) (hr : s.Ready op) :
    s.Sets (execAlu op f (immForm rd a (signExtend24 imm) 0) s) rd v :=
  execAlu_sets_of_immediate hx (immediate24_iff.1 immediate24_signExtend24)
    ((congrArg (f (x a)) (signExtend_signExtend (m := 24) (by decide) (by decide))).trans hv) hr

/-- A shift by an immediate amount, by which the shift is defined (R494 to R496). -/
theorem execAlu_sets_of_shamt {shift : Word → Nat → Word} {shamt : BitVec 5} (hx : s.Registers x) (hr : s.Ready op) :
    s.Sets (execAlu op (fun z y => shift z (shamt32 y)) (immForm rd a shamt.toNat 0) s) rd (shift (x a) shamt.toNat) :=
  execAlu_sets_of_immediate hx (immediate24_iff.1 (immediate24_shamt shamt)) (by rw [shamt32_ofNat]) hr

theorem execMulDiv_sets_of_registers (hx : s.Registers x) (hv : f (x a) (x b) = v) (hr : s.Ready op) :
    s.Sets (execMulDiv op f (regForm rd a b 0) s) rd v :=
  hv ▸ execMulDiv_of_holds hr (regPtr_of_registers hx rd) (holds_of_registers hx a) (holds_of_registers hx b)

theorem execLuiRv32_sets {imm : BitVec 20} (hx : s.Registers x) (hr : s.Ready .luiRv32) :
    s.Sets (execLuiRv32 (jumpForm rd 0 imm.toNat 1) s) rd (imm ++ (0 : BitVec 12)) := by
  rw [State.Sets, upper_toNat]
  exact execLuiRv32_of_ready hr imm.isLt (regPtr_of_registers hx rd)

theorem execAuipcRv32_sets {imm : BitVec 20} (hx : s.Registers x) (hr : s.Ready .auipcRv32) :
    s.Sets (execAuipcRv32 (jumpForm rd 0 imm.toNat 0) s) rd (BitVec.ofNat 32 s.pc + (imm ++ (0 : BitVec 12))) := by
  rw [State.Sets, BitVec.toNat_add, BitVec.toNat_ofNat, upper_toNat, Nat.mod_add_mod]
  exact execAuipcRv32_of_ready hr imm.isLt (regPtr_of_registers hx rd)

/-- Each word of the table runs, unless `rd` is `x0`, an instruction that gives `rd` its RISC-V value (R480 to R498, R515 to
R524). -/
theorem exec_of_registerResult (hx : s.Registers x) (h : registerResult s.cfg.divRemSign s.pc x i = some (op, rd, v)) :
    ∃ run, exec i s = runUnlessX0 rd run s ∧ (s.Ready op → s.Sets (run s) rd v) := by
  cases i with
  | rvAdd | rvSub | rvXor | rvOr | rvAnd | rvSll | rvSrl | rvSra => cases h; exact ⟨_, rfl, execAlu_sets_of_registers hx rfl⟩
  | rvSlt => cases h; exact ⟨_, rfl, execAlu_sets_of_registers hx (aluSlt_eq_ite _ _)⟩
  | rvSltu => cases h; exact ⟨_, rfl, execAlu_sets_of_registers hx (aluSltu_eq_ite _ _)⟩
  | rvAddi | rvXori | rvOri | rvAndi => cases h; exact ⟨_, rfl, execAlu_sets_of_imm12 hx rfl⟩
  | rvSlli => cases h; exact ⟨_, rfl, execAlu_sets_of_shamt (shift := fun z n => z <<< n) hx⟩
  | rvSrli => cases h; exact ⟨_, rfl, execAlu_sets_of_shamt (shift := fun z n => z >>> n) hx⟩
  | rvSrai => cases h; exact ⟨_, rfl, execAlu_sets_of_shamt (shift := fun z n => z.sshiftRight n) hx⟩
  | rvSlti rd a imm =>
    cases h
    refine ⟨_, rfl, execAlu_sets_of_imm12 hx ?_⟩
    rw [aluSlt_eq_ite, BitVec.toInt_signExtend_of_le (by norm_num)]
  | rvSltiu => cases h; exact ⟨_, rfl, execAlu_sets_of_imm12 hx (aluSltu_eq_ite _ _)⟩
  | rvLui => cases h; exact ⟨_, rfl, execLuiRv32_sets hx⟩
  | rvAuipc => cases h; exact ⟨_, rfl, execAuipcRv32_sets hx⟩
  | rvMul | rvDivu | rvRemu => cases h; exact ⟨_, rfl, execMulDiv_sets_of_registers hx rfl⟩
  | rvMulh => cases h; exact ⟨_, rfl, execMulDiv_sets_of_registers hx (mulHighSigned_eq_ofInt _ _)⟩
  | rvMulhsu => cases h; exact ⟨_, rfl, execMulDiv_sets_of_registers hx (mulHighSignedUnsigned_eq_ofInt _ _)⟩
  | rvMulhu => cases h; exact ⟨_, rfl, execMulDiv_sets_of_registers hx (mulHighUnsigned_eq_ofNat _ _)⟩
  | rvDiv => cases h; exact ⟨_, rfl, execMulDiv_sets_of_registers hx (divSigned_eq_ite _ _ _)⟩
  | rvRem => cases h; exact ⟨_, rfl, execMulDiv_sets_of_registers hx (remSigned_eq_ite _ _ _)⟩
  | _ => cases h

theorem writeEnable_of_ne (h : rd ≠ 0) : writeEnable rd = 1 := if_neg h

end words

/-! ### The axVM loads and stores, as rows -/

/-- The five loads, with their mnemonics, sizes and conversions (R254 to R258). -/
def loadRows : List ((Operands → Instr) × Op × Nat × (Nat → Word)) := [
  (.loadbRv32, .loadbRv32, 1, fun v => (BitVec.ofNat 8 v).signExtend 32),
  (.loadhRv32, .loadhRv32, 2, fun v => (BitVec.ofNat 16 v).signExtend 32),
  (.loadwRv32, .loadwRv32, 4, fun v => BitVec.ofNat 32 v),
  (.loadbuRv32, .loadbuRv32, 1, fun v => BitVec.ofNat 32 v),
  (.loadhuRv32, .loadhuRv32, 2, fun v => BitVec.ofNat 32 v)]

/-- The three stores and `REVEAL_RV32`, with their mnemonics and sizes (R259 to R261, R331). -/
def storeRows : List ((Operands → Instr) × Op × Nat) :=
  [(.storebRv32, .storebRv32, 1), (.storehRv32, .storehRv32, 2), (.storewRv32, .storewRv32, 4), (.revealRv32, .storewRv32, 4)]

end Sys2Proof.Machine

namespace Sys2Proof

open Machine

/-- Settles O45. -/
theorem riscvRegisterInstructionsComputeTheirResult : Obligations.RiscvRegisterInstructionsComputeTheirResult := by
  intro s x i op rd v hx h
  obtain ⟨run, hexec, hrun⟩ := exec_of_registerResult hx h
  refine ⟨fun hrd hr => ⟨_, ?_, wrote_bytes_of_ready hr⟩, ?_⟩
  · exact hexec.trans ((runUnlessX0_of_ne hrd).trans (hrun hr))
  · rintro rfl hr
    exact hexec.trans (runUnlessX0_zero hr)

/-- Settles O46: a load becomes the axVM load of its row in space 2, on the register and the immediate of the word. -/
theorem riscvLoadsReadUserMemory : Obligations.RiscvLoadsReadUserMemory := by
  intro row hrow s x rd rs1 imm
  obtain ⟨load, hload, hword⟩ : ∃ load, (load, row.2.1, row.2.2.1, row.2.2.2) ∈ loadRows ∧
      ∀ rd rs1 imm, exec (row.1 rd rs1 imm) s = runUnlessX0 rd (exec (load (immForm rd rs1 (signExtend16 imm) 2))) s := by
    simp only [List.mem_cons, List.not_mem_nil, or_false] at hrow
    rcases hrow with rfl | rfl | rfl | rfl | rfl
    · exact ⟨.loadbRv32, by simp [loadRows], fun _ _ _ => rfl⟩
    · exact ⟨.loadhRv32, by simp [loadRows], fun _ _ _ => rfl⟩
    · exact ⟨.loadwRv32, by simp [loadRows], fun _ _ _ => rfl⟩
    · exact ⟨.loadbuRv32, by simp [loadRows], fun _ _ _ => rfl⟩
    · exact ⟨.loadhuRv32, by simp [loadRows], fun _ _ _ => rfl⟩
  refine ⟨fun q v hrd hr hx hq halign hfits hv => ?_, fun hr => ?_⟩
  · obtain ⟨t, hexec, hwrote⟩ := loadsWriteTheRegister _ hload s (ind rd) (ind rs1) (signExtend16 imm) 2 (x rs1) q v hr
      (Config.Wf.validSpace hr.1 (by decide) (by decide)) signExtend16_lt (regPtr_of_registers hx rd)
      (holds_of_registers hx rs1) ((displaced_signExtend16 _).trans hq) halign hfits hv
    exact ⟨t, (hword rd rs1 imm).trans ((runUnlessX0_of_ne hrd).trans hexec), hwrote⟩
  · exact (hword 0 rs1 imm).trans (runUnlessX0_zero hr)

/-- Settles O47: a store becomes the axVM store of its row, on the registers and the immediate of the word. -/
theorem riscvStoresWriteMemory : Obligations.RiscvStoresWriteMemory := by
  intro row hrow s x data base imm q hr hx hq halign hfits
  obtain ⟨store, hstore, hspace, hreveal, hword⟩ : ∃ store, (store, row.2.1, row.2.2.1) ∈ storeRows ∧
      ValidSpace s.cfg row.2.2.2 ∧ (store = .revealRv32 → row.2.2.2 = 3) ∧
      exec (row.1 data base imm) s = exec (store (immForm data base (signExtend16 imm) row.2.2.2)) s := by
    have hspace {sp : Nat} (h1 : 1 ≤ sp) (h4 : sp ≤ 4) : ValidSpace s.cfg sp := Config.Wf.validSpace hr.1 h1 h4
    simp only [List.mem_cons, List.not_mem_nil, or_false] at hrow
    rcases hrow with rfl | rfl | rfl | rfl
    · exact ⟨.storebRv32, by simp [storeRows], hspace (by decide) (by decide), fun h => (nomatch congrFun h (regForm 0 0 0 0)), rfl⟩
    · exact ⟨.storehRv32, by simp [storeRows], hspace (by decide) (by decide), fun h => (nomatch congrFun h (regForm 0 0 0 0)), rfl⟩
    · exact ⟨.storewRv32, by simp [storeRows], hspace (by decide) (by decide), fun h => (nomatch congrFun h (regForm 0 0 0 0)), rfl⟩
    · exact ⟨.revealRv32, by simp [storeRows], hspace (by decide) (by decide), fun _ => rfl, rfl⟩
  rw [hword]
  exact storesWriteTheCells _ hstore s (ind data) (ind base) (signExtend16 imm) row.2.2.2 (x base) (x data) q hr hspace
    signExtend16_lt hreveal (holds_of_registers hx data) (holds_of_registers hx base) ((displaced_signExtend16 _).trans hq) halign
    hfits

/-- Settles O48: a branch becomes the axVM branch of its row, with the field element of its byte offset. -/
theorem riscvBranchesSetPc : Obligations.RiscvBranchesSetPc := by
  intro row hrow s x rs1 rs2 imm q hw hop hx hq htarget
  obtain ⟨branch, hbranch, hword⟩ : ∃ branch, (branch, row.2.1, row.2.2) ∈ branchRows ∧
      exec (row.1 rs1 rs2 imm) s = exec (branch (branchForm rs1 rs2 (itofB s.cfg.p imm) 1)) s := by
    simp only [List.mem_cons, List.not_mem_nil, or_false] at hrow
    rcases hrow with rfl | rfl | rfl | rfl | rfl | rfl
    · exact ⟨.beqRv32, by simp [branchRows], rfl⟩
    · exact ⟨.bneRv32, by simp [branchRows], rfl⟩
    · exact ⟨.bltRv32, by simp [branchRows], rfl⟩
    · exact ⟨.bgeRv32, by simp [branchRows], rfl⟩
    · exact ⟨.bltuRv32, by simp [branchRows], rfl⟩
    · exact ⟨.bgeuRv32, by simp [branchRows], rfl⟩
  rw [hword]
  exact branchesSetPc _ hbranch s (ind rs1) (ind rs2) (itofB s.cfg.p imm) (x rs1) (x rs2) q hw hop (branchOffset_itofB hw)
    (holds_of_registers hx rs1) (holds_of_registers hx rs2) hq (by rw [centred_itofB hw]; exact htarget)

/-- Settles O49: the two jumps with the write enable of `rd` as their operand `f`. -/
theorem riscvJumpsLinkAndSetPc : Obligations.RiscvJumpsLinkAndSetPc := by
  intro s x rd rs1 imm off q hw hx hpc hq
  have hjump (r : BitVec 5) (c : Nat) := jumpsLinkAndSetPc s (ind r) (ind rs1) c (x rs1) q hw hpc hq
  have hjal (r : BitVec 5) : exec (.rvJal r off) s = exec (.jalRv32 (jumpForm r 0 (itofJ s.cfg.p off) (writeEnable r))) s := rfl
  have hjalr (r : BitVec 5) :
      exec (.rvJalr r rs1 imm) s = exec (.jalrRv32 (jumpForm r (ind rs1) (signExtend16 imm) (writeEnable r))) s := rfl
  refine ⟨fun hop htarget => ?_, fun hop htarget => ?_⟩
  · have hoff : (q : Int) = s.pc + centred s.cfg.p (itofJ s.cfg.p off) := by rwa [centred_itofJ hw]
    have hrun (r : BitVec 5) := (hjump r _).1 hop (branchOffset_itofJ hw) hoff
    refine ⟨fun hrd => ?_, (hjal 0).trans (hrun 0).1⟩
    rw [hjal, writeEnable_of_ne hrd]
    exact (hrun rd).2 (regPtr_of_registers hx rd)
  · have hrun (r : BitVec 5) := (hjump r _).2 hop signExtend16_lt (holds_of_registers hx rs1)
      ((displaced_signExtend16 _).trans htarget)
    refine ⟨fun hrd => ?_, (hjalr 0).trans (hrun 0).1⟩
    rw [hjalr, writeEnable_of_ne hrd]
    exact (hrun rd).2 (regPtr_of_registers hx rd)

end Sys2Proof
end
